-- ==== Sys2Proof/Word.lean ====
section
/-! DEFINITION. The words of the two links, the numbers of lines, stations, slots, entries and inputs, and the
small operand types of commands. Conventions of spec/00_scope.md ("Conventions"). -/

namespace Sys2Proof

/-- One character of either link: eight data bits (00_scope.md, "Physical interface summary"). -/
abbrev Byte := BitVec 8

/-- A two-byte value of a frame (R159). -/
abbrev Word16 := BitVec 16

/-- Line `n` of the manual (1 to 16) is `n - 1` here; `number` gives the manual's number. -/
abbrev LineId := Fin 16

/-- Station address `n` (1 to 16) is `n - 1` here. -/
abbrev StationId := Fin 16

/-- Group 0 to 3 (BOW, FORWARD BREAST, AFTER BREAST, STERN). -/
abbrev GroupId := Fin 4

/-- Confirmed command slot 0 to 7 (R66). -/
abbrev SlotId := Fin 8

/-- Trigger entry 0 to 11 (R83). -/
abbrev EntryId := Fin 12

/-- Trigger input IN0 to IN3. -/
abbrev InputId := Fin 4

/-- Action number 0 to 15 (R110). -/
abbrev ActionNo := Fin 16

/-- A line set: line n is a member when bit n - 1 is 1 (R159). -/
abbrev LineSet := BitVec 16

/-- The manual's number, 1 to 16, of a line or station. -/
def number (i : Fin 16) : Nat := i.val + 1

/-- The level of a pin or of a debounced input (R86). -/
inductive Level where
  | high
  | low
  deriving DecidableEq, Repr

/-- R115 lets either block take a silence first: the frame's owner or the Station Monitor. -/
inductive SilenceOrder where
  | ownerFirst
  | monitorFirst
  deriving DecidableEq, Repr

/-- R157 lets a pendant's ending and the scheduler's choice at the same free moment be taken in either order. -/
inductive FreeOrder where
  | endingFirst
  | choiceFirst
  deriving DecidableEq, Repr

end Sys2Proof
end

