-- ==== Sys2Proof/Syntax.lean ====
section
/-! DEFINITION. The commands of the block: one constructor per row of spec/opcode_table.json, with the operands the
event or request carries. The rows of the host's requests carry the frame's tag and the fields of R159 and R165 as
they stand in the payload, so an undefined code or an out-of-range value can be given and is refused or clamped. -/

namespace Sys2Proof

/-- The 69 commands. -/
inductive Instr where
  /-- RESETN rises with supply and clock stable (R1). -/
  | powerOnReset
  /-- Characters of a host frame arrive, up to and with its last (R163). -/
  | hostFrameReceived (chars : List Byte)
  /-- The Quay Link goes quiet for 1 ms (R163). -/
  | receiverLineQuiet
  /-- A MANAGEMENT frame with a code outside R165's table is processed. -/
  | unknownOperation (tag code : Byte) (fields : List Byte)
  /-- LINE COMMAND RUN_OUT (R69). -/
  | runOut (tag line : Byte) (arg : Word16)
  /-- LINE COMMAND LOCK (R68). -/
  | lock (tag line : Byte) (arg : Word16)
  /-- LINE COMMAND RELEASE (R68). -/
  | release (tag line : Byte) (arg : Word16)
  /-- LINE COMMAND REWIND (R68). -/
  | rewind (tag line : Byte) (arg : Word16)
  /-- LINE COMMAND TEND ON (R46). -/
  | tendOn (tag line : Byte) (arg : Word16)
  /-- LINE COMMAND TEND OFF (R47). -/
  | tendOff (tag line : Byte) (arg : Word16)
  /-- LINE COMMAND HOLD (R61). -/
  | hold (tag line : Byte) (arg : Word16)
  /-- LINE COMMAND HEAVE (R61). -/
  | heave (tag line : Byte) (arg : Word16)
  /-- LINE COMMAND PAYOUT (R61). -/
  | payout (tag line : Byte) (arg : Word16)
  /-- ASSIGN LINE (R6). -/
  | assignLine (tag line station drum group : Byte)
  /-- UNASSIGN LINE (R7). -/
  | unassignLine (tag line : Byte)
  /-- LOAD ENVELOPE (R3): S, L, H, A, C, h, P, N. -/
  | loadEnvelope (tag line : Byte) (slack low high alarm critical hyst persist count : Word16)
  /-- LOAD CALIBRATION (R4): z, s, k, cable check. -/
  | loadCalibration (tag line : Byte) (zero span shift : Word16) (cable : Byte)
  /-- LOAD LIMITS (R5). -/
  | loadLimits (tag line : Byte) (stow min max step runOut rewind lock release divisor : Word16)
  /-- READ LINE (R1). -/
  | readLine (tag line : Byte)
  /-- CLEAR FAULT (R20). -/
  | clearFault (tag line : Byte)
  /-- ABORT LINE (R77). -/
  | abortLine (tag line : Byte)
  /-- LOAD TRIGGER (R84). -/
  | loadTrigger (tag entry source param enabled mode polarity action targetMode : Byte) (target : Word16)
  /-- READ TRIGGER (R83). -/
  | readTrigger (tag entry : Byte)
  /-- TRIGGER ACK (R99). -/
  | triggerAck (tag entry : Byte)
  /-- FIRE TRIGGER (R90). -/
  | fireTrigger (tag entry : Byte)
  /-- SET SCAN (R123). -/
  | setScan (tag mode target : Byte) (scanSet prioritySet : LineSet) (interval : Word16)
  /-- READ SCAN (R122). -/
  | readScan (tag : Byte)
  /-- STATION CONFIG (R136). -/
  | stationConfig (tag station mask : Byte) (limit : Word16)
  /-- STATION POWER (R142). -/
  | stationPower (tag station onOff : Byte)
  /-- GLOBAL POWER (R142). -/
  | globalPower (tag onOff : Byte)
  /-- ENABLE STATION (R141). -/
  | enableStation (tag station : Byte)
  /-- PARK (R146). -/
  | park (tag station : Byte)
  /-- UNPARK (R146). -/
  | unpark (tag station : Byte)
  /-- STATION RESET (R148). -/
  | stationReset (tag station : Byte)
  /-- ACK STATION CHANGES (R137). -/
  | ackStationChanges (tag station flags : Byte)
  /-- SET LINK (R167). -/
  | setLink (tag : Byte) (silence discard hold window retry powerGood : Word16)
  /-- READ STATUS (R168). -/
  | readStatus (tag part : Byte)
  /-- SOFT RESET (R175). -/
  | softReset (tag : Byte)
  /-- The last character of the SOFT RESET reply has been sent (R175). -/
  | resetTakesEffect
  /-- The up-link frame being sent ends (R169). -/
  | uplinkFrameSent
  /-- The silence timer expires (R174). -/
  | silenceTimerExpires
  /-- The other master's arbitration character prevails (R113). -/
  | arbitrationLost (winner : Byte)
  /-- A character read back differs from the one sent, after arbitration (R112). -/
  | readBackMismatch (order : SilenceOrder)
  /-- The last character of a single-station frame has been sent (R112). -/
  | lastCharacterSent
  /-- The last character of a broadcast frame has been sent (R118). -/
  | broadcastSent
  /-- The characters that complete a response arrive (R114, R115). -/
  | responseComplete (chars : List Byte) (order : SilenceOrder)
  /-- The line goes quiet before a response is complete (R114). -/
  | responseBroken (order : SilenceOrder)
  /-- No response starts within the window (R114). -/
  | responseWindowExpires (order : SilenceOrder)
  /-- The characters that complete a pendant frame arrive (R119). -/
  | pendantFrameObserved (chars : List Byte) (order : FreeOrder)
  /-- No answer to the pendant starts within the window (R119). -/
  | pendantWindowExpires
  /-- The characters that complete a station's answer to the pendant arrive (R119). -/
  | pendantResponseObserved (chars : List Byte) (order : FreeOrder)
  /-- The Station Bus goes quiet after broken pendant or foreign traffic (R119). -/
  | observerLineQuiet
  /-- The bus has been quiet for one response window after a reset (R121). -/
  | busQuietAfterReset
  /-- A station's local hold timer expires (R154). -/
  | localHoldTimerExpires (station : StationId)
  /-- A station's power-good timer expires (R143). -/
  | powerGoodTimerExpires (station : StationId)
  /-- The scan interval expires (R128). -/
  | intervalTimerExpires
  /-- A line's follow-up timer expires (R133). -/
  | followUpTimerExpires (line : LineId)
  /-- A station's probe timer expires (R132). -/
  | probeTimerExpires (station : StationId)
  /-- A slot's action timer expires (R74). -/
  | actionTimerExpires (slot : SlotId)
  /-- A slot's discard timer expires (R76). -/
  | discardTimerExpires (slot : SlotId)
  /-- A line's release timer expires (R100). -/
  | releaseTimerExpires (line : LineId)
  /-- A trigger input takes a level (R86). -/
  | inputLevelChange (input : InputId) (level : Level)
  /-- An input's stability timer expires (R86). -/
  | stabilityTimerExpires (input : InputId)
  /-- The first character of the awaited response arrives (R114). -/
  | responseFirstCharacter (char : Byte) (order : SilenceOrder)
  /-- The first character of a station's answer to the pendant arrives (R119). -/
  | pendantResponseStarts (char : Byte)
  /-- A character arrives on the free bus (R119). -/
  | observedTrafficStarts (char : Byte)
  /-- The first three characters of a host frame arrive, the third above 240 (R163). -/
  | payloadLengthAbove240 (kind tag length : Byte)
  /-- A LINE COMMAND frame of a wrong length or with an undefined verb is processed (R60). -/
  | undefinedVerb (tag : Byte) (payload : List Byte)
  /-- A MANAGEMENT frame with an empty payload is processed (R165). -/
  | emptyManagementPayload (tag : Byte)
  deriving DecidableEq, Repr

end Sys2Proof
end

