-- ==== Sys2Proof/Decode.lean ====
section
/-! DEFINITION. Words of the table: every row of spec/opcode_table.json has an empty list of fields and no fixed bits,
so no word spells a command. The characters of the two links are read in Machine/Frames.lean and
Machine/Requests.lean. -/

namespace Sys2Proof

/-- The command that a word spells by the table's bits: none, since no row gives bits. -/
def decodeTableWord (_nbits _w : Nat) : Option Instr := none

end Sys2Proof
end

