-- ==== Sys2Proof/Config.lean ====
section
/-! DEFINITION. The values the spec leaves unstated, as constants without a body: no proof can see what they are.
Each takes the counter `freeCount` of State, which the step advances at every use (log entry 9). -/

namespace Sys2Proof.Config

/-- DESIGN CHOICE (log entry 9): the third byte of the REPLY to a request that carries no verb or operation code
(a MANAGEMENT frame with an empty payload, a LINE COMMAND frame with a payload of less than two bytes). R166 names
the request's verb or code there and states no value where there is none. -/
opaque absentCode : Nat → Byte

/-- DESIGN CHOICE (log entry 9): the raw sample that SENSOR_RESTORED carries when LOAD CALIBRATION queues it.
R31 gives the event a raw sample, R4 queues it with no sample at hand. -/
opaque loadRestoredRaw : Nat → BitVec 12

/-- DESIGN CHOICE (log entry 9): the drum motion (0 STOPPED, 1 HEAVING, 2 PAYING) taken from a STATUS whose
two motion bits are 3, a code R161 gives no meaning. -/
opaque reservedMotion : Nat → Fin 3

end Sys2Proof.Config
end

