-- ==== Sys2Proof/Machine/Types.lean ====
section
/-! DEFINITION. The enumerations of the manual, each in the order in which the manual lists its values (R159 codes
an enumerated value by that order). -/

namespace Sys2Proof.Machine

/-- Drum A or B of a station. -/
inductive Drum where
  | a | b
  deriving DecidableEq, Repr

/-- The eleven line states (section 1.3). -/
inductive LineState where
  | unassigned | stowed | runningOut | ready | locking | locked | tending | releasing | released | rewinding | fault
  deriving DecidableEq, Repr

/-- Who may command a line (R1). -/
inductive Owner where
  | quay | localOwner
  deriving DecidableEq, Repr

/-- The cause of FAULT (R1). -/
inductive FaultCause where
  | stationLost | latchJammed | commandFailed | resync
  deriving DecidableEq, Repr

/-- The tension class (R35), lowest first. -/
inductive Band where
  | slack | low | working | high | alarm | critical
  deriving DecidableEq, Repr

/-- The evaluator's judgement of the load-cell cable (R29). -/
inductive SensorMark where
  | ok | suspect | open_
  deriving DecidableEq, Repr

/-- The cable check of a line (R4). -/
inductive CableCheck where
  | none | high | low
  deriving DecidableEq, Repr

/-- The sample kind of a POLL and its STATUS (R28, R161). -/
inductive SampleKind where
  | normal | checkHigh | checkLow
  deriving DecidableEq, Repr

/-- The latch a STATUS reports (R161). -/
inductive Latch where
  | open_ | closed | moving | jammed
  deriving DecidableEq, Repr

/-- The brake a STATUS reports (R161). -/
inductive Brake where
  | set | free
  deriving DecidableEq, Repr

/-- The drum motion a STATUS reports (R161). -/
inductive DrumMotion where
  | stopped | heaving | paying
  deriving DecidableEq, Repr

/-- The status of a drum's last action (R105). -/
inductive ActionStatus where
  | idle | busy | done | failed
  deriving DecidableEq, Repr

/-- A drum's drive status (R149). -/
inductive DriveStatus where
  | ok | driveFault
  deriving DecidableEq, Repr

/-- The direction of a tend step (R49). -/
inductive TendDirection where
  | heave | payout
  deriving DecidableEq, Repr

/-- A posted verb (R62). -/
inductive PostedVerb where
  | hold | heave | payout
  deriving DecidableEq, Repr

/-- A confirmed verb (R66). -/
inductive ConfirmedVerb where
  | runOut | lock | release | rewind
  deriving DecidableEq, Repr

/-- The state of a confirmed slot (R66). -/
inductive SlotState where
  | free | queued | issued | awaiting | complete
  deriving DecidableEq, Repr

/-- The result of a confirmed slot (R66). -/
inductive SlotResult where
  | done | failed | actionTimeout | noResponse | refused | preempted | aborted
  deriving DecidableEq, Repr

/-- The two answers that are not ACK (R66, "last answer"). -/
inductive LastAnswer where
  | nak | silence
  deriving DecidableEq, Repr

/-- Why a posted entry was given up (R64). -/
inductive UndeliveredReason where
  | nak | noResponse | stationLost | powerOff | unassigned
  deriving DecidableEq, Repr

/-- The source condition of a trigger entry (R83). -/
inductive TriggerSource where
  | lineCritical (line : LineId)
  | groupAlarm (group : GroupId)
  | input (n : InputId)
  | hostSilent
  | stationLost (station : StationId)
  | software
  deriving DecidableEq, Repr

/-- Trigger mode (R83). -/
inductive TriggerMode where
  | edge | level
  deriving DecidableEq, Repr

/-- Polarity of an INPUT source (R83). -/
inductive Polarity where
  | activeHigh | activeLow
  deriving DecidableEq, Repr

/-- The action of a trigger entry (R83). -/
inductive TriggerAction where
  | report | hold | slacken | release | stopAll
  deriving DecidableEq, Repr

/-- Target mode together with its target (R83): SOURCE_LINE has none. -/
inductive TriggerTarget where
  | sourceLine
  | lineSet (lines : LineSet)
  | group (g : GroupId)
  deriving DecidableEq, Repr

/-- Delivery status of a trigger entry (R83). -/
inductive DeliveryStatus where
  | idle | pending | awaitingAck
  deriving DecidableEq, Repr

/-- The state of one target of an action record (R92, R95, R96): `broadcast` is a target of a STOP_ALL record,
which has no frame of its own and waits for the record's broadcast. -/
inductive TargetState where
  | waiting | sent | broadcast | succeeded | failed
  deriving DecidableEq, Repr

/-- The scan modes (R122). -/
inductive ScanMode where
  | off | single | repeat_ | sweep | repeatSweep | prioritySweep
  deriving DecidableEq, Repr

/-- The state of a sweep member (R122). -/
inductive MemberState where
  | outstanding | inFlight | done
  deriving DecidableEq, Repr

/-- Power of a station (R135). -/
inductive Power where
  | off | powering | on
  deriving DecidableEq, Repr

/-- Power mask of a station (R135). -/
inductive PowerMask where
  | global | individual
  deriving DecidableEq, Repr

/-- Presence of a station (R135). -/
inductive Presence where
  | absent | present
  deriving DecidableEq, Repr

/-- The three station operations (R135). -/
inductive StationOp where
  | park | unpark | reset
  deriving DecidableEq, Repr

/-- How a station operation left the STATION source (R135). -/
inductive OpOutcome where
  | acked | notTaken
  deriving DecidableEq, Repr

/-- The verbs of the Station Bus (R161). -/
inductive BusVerb where
  | poll | runOut | lock | release | rewind | heave | payout | hold | stop | park | unpark | reset | handBack
  deriving DecidableEq, Repr

/-- The four class-3 sources (R103). -/
inductive ClassThree where
  | posted | confirmed | tend | station
  deriving DecidableEq, Repr

/-- Engine state (R103). -/
inductive EngineState where
  | idle | sending | awaitingResponse
  deriving DecidableEq, Repr

/-- Severity of an event (R170). -/
inductive Severity where
  | info | warning | alarm
  deriving DecidableEq, Repr

/-- The statuses of a REPLY (R166). -/
inductive ReplyStatus where
  | ok | clamped | wait | result | full | lineBusy | badState | notAssigned | localControl | stationUnavailable
  | stationBusy | badArgument | scanBusy | unknownOperation
  deriving DecidableEq, Repr

/-- The two kinds of frame a host sends (R159). -/
inductive HostKind where
  | lineCommand | management
  deriving DecidableEq, Repr

/-- Why a station's lines were returned (R154, R155). -/
inductive ReturnCause where
  | timeout | handBack
  deriving DecidableEq, Repr

end Sys2Proof.Machine
end

