-- ==== Sys2Proof/Machine/State.lean ====
section
/-! DEFINITION. The state of the part, block by block, and its value after power-on reset. Plain data: lists, fixed
vectors, options and numbers. Each record cites the table of the spec that gives its fields; a field's default is its
power-on value. -/

namespace Sys2Proof.Machine

/-- Stopped, or running with the time left in milliseconds. -/
abbrev Timer := Option Nat

/-! ### Line Table (chapter 1) -/

/-- Station, drum and group of an assigned line (R1, R6). -/
structure Binding where
  station : StationId
  drum : Drum
  group : GroupId
  deriving DecidableEq, Repr

/-- The configuration part of a line record (R1, first table). -/
structure LineConfig where
  slack : Nat := 200
  low : Nat := 1500
  high : Nat := 2800
  alarm : Nat := 4000
  critical : Nat := 5500
  hyst : Nat := 100
  persistence : Nat := 3
  criticalCount : Nat := 2
  zero : Nat := 0
  span : Nat := 256
  shift : Nat := 2
  cable : CableCheck := .none
  stow : Nat := 200
  minLength : Nat := 500
  maxLength : Nat := 6000
  tendStep : Nat := 20
  runOutTime : Nat := 60
  rewindTime : Nat := 120
  lockTime : Nat := 50
  releaseTime : Nat := 30
  divisor : Nat := 0
  deriving DecidableEq, Repr

/-- A line record (R1). `binding` is present exactly when the record is assigned. The dynamic fields' defaults are
the column "Power-on reset, and after UNASSIGN LINE". -/
structure LineRecord where
  config : LineConfig := {}
  binding : Option Binding := none
  state : LineState := .unassigned
  owner : Owner := .quay
  resync : Bool := false
  cause : Option FaultCause := none
  lastRaw : Option Nat := none
  tension : Nat := 0
  filtered : Nat := 0
  seeded : Bool := false
  band : Band := .working
  candidate : Option Band := none
  persistCount : Nat := 0
  criticalRun : Nat := 0
  sensor : SensorMark := .ok
  pollCount : Nat := 0
  length : Option Nat := none
  latch : Option Latch := none
  brake : Option Brake := none
  motion : Option DrumMotion := none
  lastAction : Option (ActionNo × ActionStatus) := none
  triggerInFlight : Option (EntryId × ActionNo) := none
  lengthLimit : Bool := false
  telemetryCount : Nat := 0
  deriving DecidableEq, Repr

/-! ### Tending Unit (chapter 3) -/

/-- An entry of the tend request list (R52); its place in the list is its creation order. -/
structure TendEntry where
  line : LineId
  direction : TendDirection
  step : Nat
  sent : Bool := false
  attempts : Nat := 0
  deriving DecidableEq, Repr

/-! ### Command Bridge (chapter 4) -/

/-- An entry of the posted queue (R62). -/
structure PostedEntry where
  line : LineId
  station : StationId
  drum : Drum
  verb : PostedVerb
  arg : Nat
  order : Nat
  sent : Bool := false
  attempts : Nat := 0
  deriving DecidableEq, Repr

/-- What a confirmed slot in use holds about its command (R66). -/
structure SlotCommand where
  line : LineId
  verb : ConfirmedVerb
  tag : Byte
  requested : Word16
  sentArg : Nat
  prior : LineState
  order : Nat
  deriving DecidableEq, Repr

/-- A confirmed command slot (R66). `command` is absent exactly in FREE. -/
structure Slot where
  state : SlotState := .free
  command : Option SlotCommand := none
  attempts : Nat := 0
  lastAnswer : Option LastAnswer := none
  action : Option ActionNo := none
  actionTimer : Timer := none
  discardTimer : Timer := none
  result : Option SlotResult := none
  deriving DecidableEq, Repr

/-- The Command Bridge. `retries` lists the ISSUED slots whose exchange has ended in NAK or silence with attempts
left, the one whose exchange ended first at the head (R70). -/
structure Bridge where
  posted : List PostedEntry := []
  slots : Vector Slot 8 := Vector.replicate 8 {}
  nextOrder : Nat := 0
  retries : List SlotId := []
  deriving DecidableEq, Repr

/-! ### Release Trigger Unit (chapter 5) -/

/-- A trigger entry (R83). -/
structure TriggerEntry where
  source : TriggerSource := .software
  enabled : Bool := false
  mode : TriggerMode := .edge
  polarity : Polarity := .activeHigh
  action : TriggerAction := .report
  target : TriggerTarget := .lineSet 0
  status : DeliveryStatus := .idle
  edgeRef : Bool := false
  succeeded : Nat := 0
  failed : Nat := 0
  deriving DecidableEq, Repr

/-- One target of an action record (R92). `step` is the argument of SLACKEN's PAYOUT. -/
structure Target where
  line : LineId
  state : TargetState
  attempts : Nat := 0
  step : Nat := 0
  deriving DecidableEq, Repr

/-- An action record (R91); its place in the list is its age. -/
structure ActionRecord where
  entry : EntryId
  action : TriggerAction
  targets : List Target
  deriving DecidableEq, Repr

/-- A trigger input: the level of its pin, and its debouncer (R86). -/
structure TriggerInput where
  pin : Level := .high
  debounced : Level := .high
  stability : Timer := none
  deriving DecidableEq, Repr

/-- The Release Trigger Unit. -/
structure TriggerUnit where
  entries : Vector TriggerEntry 12 := Vector.replicate 12 {}
  actions : List ActionRecord := []
  releaseTimers : Vector Timer 16 := Vector.replicate 16 none
  inputs : Vector TriggerInput 4 := Vector.replicate 4 {}
  stationLost : Vector Bool 16 := Vector.replicate 16 false
  alm : Bool := false
  deriving DecidableEq, Repr

/-! ### Scan Unit (chapter 7) -/

/-- A scan configuration (R122). -/
structure ScanConfig where
  mode : ScanMode := .off
  target : LineId := 0
  scanSet : LineSet := 0
  prioritySet : LineSet := 0
  interval : Nat := 10
  deriving DecidableEq, Repr

/-- The current sweep (R122): its members in ascending line number. -/
structure Sweep where
  members : List (LineId × MemberState)
  sent : Nat := 0
  received : Nat := 0
  deriving DecidableEq, Repr

/-- An entry of the poll list (R129). -/
inductive PollEntry where
  | line (line : LineId) (sweep followUp : Bool)
  | probe (station : StationId)
  deriving DecidableEq, Repr

/-- The Scan Unit (R122). -/
structure ScanUnit where
  config : ScanConfig := {}
  pending : Option ScanConfig := none
  intervalTimer : Timer := none
  sweep : Option Sweep := none
  sweepDue : Bool := false
  pointer : LineId := 15
  pollList : List PollEntry := []
  followUp : Vector Timer 16 := Vector.replicate 16 none
  probe : Vector Timer 16 := Vector.replicate 16 none
  deriving DecidableEq, Repr

/-! ### Station Bus Controller (chapter 6) -/

/-- A downstream frame of the part (R109). Destination 31 is the broadcast. -/
structure BusFrame where
  priority : Nat
  dest : Nat
  verb : BusVerb
  drum : Drum := .a
  kind : SampleKind := .normal
  action : ActionNo := 0
  arg : Nat := 0
  deriving DecidableEq, Repr

/-- Whose frame is on the bus (section 6, the table of sources). -/
inductive FrameOwner where
  | trigger (entry : EntryId) (line : LineId)
  | stopAll (entry : EntryId)
  | pollLine (line : LineId) (sweep followUp : Bool)
  | probe (station : StationId)
  | posted
  | confirmed (slot : SlotId)
  | tend (line : LineId)
  | station
  deriving DecidableEq, Repr

/-- What a lost arbitration gives back (R113) beside the owner's attempt count: the scheduler's state, and the value
that the owner's item, or the line record the sending changed, held before the sending. -/
structure Undo where
  rotation : List ClassThree
  pollRun : Nat
  nextAction : ActionNo := 0
  slotAction : Option ActionNo := none
  inFlight : Option (EntryId × ActionNo) := none
  releaseTimer : Timer := none
  pollCount : Nat := 0
  deriving DecidableEq, Repr

/-- The exchange in flight (R103). `station` is absent for a broadcast; `detached` says that the owner has removed its
item while the exchange was on the bus (R115). -/
structure Exchange where
  owner : FrameOwner
  frame : BusFrame
  station : Option StationId
  detached : Bool := false
  undo : Undo
  deriving DecidableEq, Repr

/-- The bus observer (R119). `foreign true` is the FOREIGN state a reset enters (R121). -/
inductive Observer where
  | quiet
  | pendantFrame (chars : List Byte)
  | pendantWindow (frame : List Byte) (window : Timer)
  | pendantResponse (frame chars : List Byte)
  | foreign (afterReset : Bool)
  deriving DecidableEq, Repr

/-- What a frame of the STATION source is (R111): a station operation, or the abort STOP of a drum. -/
inductive StationFrame where
  | op (op : StationOp)
  | stop (drum : Drum)
  deriving DecidableEq, Repr

/-- A frame held in the STATION source, with its attempt count (R78, R111, R146). -/
structure StationItem where
  station : StationId
  frame : StationFrame
  attempts : Nat := 0
  deriving DecidableEq, Repr

/-- The Station Bus Controller (R103). The response window and the retry limit are link settings. -/
structure Bus where
  engine : EngineState := .idle
  exchange : Option Exchange := none
  window : Timer := none
  response : Option (List Byte) := none
  observer : Observer := .foreign true
  rotation : List ClassThree := [.posted, .confirmed, .tend, .station]
  pollRun : Nat := 0
  nextAction : Vector ActionNo 16 := Vector.replicate 16 0
  stationSource : List StationItem := []
  deriving DecidableEq, Repr

/-! ### Station Monitor (chapter 8) -/

/-- The change flags of a station (R137). -/
structure ChangeFlags where
  presence : Bool := false
  enable : Bool := false
  park : Bool := false
  fault : Bool := false
  reset : Bool := false
  deriving DecidableEq, Repr

/-- A station record (R135). The station operation stands in the STATION source, drive fault and the power output are
read from the drive statuses and the power (log entry 26). -/
structure StationRecord where
  power : Power := .off
  powerGood : Timer := none
  mask : PowerMask := .global
  presence : Presence := .absent
  enabled : Bool := true
  parked : Bool := false
  driveA : DriveStatus := .ok
  driveB : DriveStatus := .ok
  resetting : Bool := false
  outcome : Option (StationOp × OpOutcome) := none
  missed : Nat := 0
  missedLimit : Nat := 3
  flags : ChangeFlags := {}
  deriving DecidableEq, Repr

/-! ### Quay Port (chapter 10) -/

/-- The receiver (R162). -/
inductive Receiver where
  | idle
  | receiving (chars : List Byte)
  | discarding
  deriving DecidableEq, Repr

/-- A valid host frame (R159): kind, tag and payload. -/
structure HostFrame where
  kind : HostKind
  tag : Byte
  payload : List Byte
  deriving DecidableEq, Repr

/-- A REPLY (R166): `code` is the request's verb or operation code. -/
structure Reply where
  tag : Byte
  status : ReplyStatus
  kind : HostKind
  code : Byte
  data : List Byte
  deriving DecidableEq, Repr

/-- An event: its kind, subject and data items (R171; each constructor cites the rule that queues it). -/
inductive Event where
  /-- R43 -/
  | bandChange (line : LineId) (left entered : Band) (filtered tension : Nat)
  /-- R39 -/
  | critical (line : LineId) (tension limit : Nat)
  /-- R30 -/
  | sensorOpen (line : LineId) (cable : CableCheck) (raw : Nat)
  /-- R31, R4 -/
  | sensorRestored (line : LineId) (raw : Nat)
  /-- R51 -/
  | lengthLimit (line : LineId) (direction : TendDirection) (length limit step : Nat)
  /-- R56 -/
  | tendUndelivered (line : LineId) (direction : TendDirection) (step attempts : Nat) (answer : LastAnswer)
  /-- R64 -/
  | postedUndelivered (line : LineId) (station : StationId) (verb : PostedVerb) (arg attempts : Nat)
      (reason : UndeliveredReason)
  /-- R76 -/
  | completionDiscarded (line : LineId) (verb : ConfirmedVerb) (tag : Byte) (result : SlotResult)
  /-- R91 -/
  | triggerFired (entry : EntryId) (source : TriggerSource) (action : TriggerAction) (targets : Nat)
  /-- R98 -/
  | triggerDelivered (entry : EntryId) (action : TriggerAction) (succeeded failed : Nat)
  /-- R137 -/
  | stationChange (station : StationId) (newly all : ChangeFlags) (power : Power) (presence : Presence)
      (enabled parked driveFault resetting : Bool)
  /-- R152, R153: no station is the broadcast address; the verb is the pendant's code. -/
  | localTaken (station : Option StationId) (lines : LineSet) (verb : Byte)
  /-- R154, R155 -/
  | localReturned (station : StationId) (cause : ReturnCause) (lines : LineSet)
  /-- R126 -/
  | scanDone (mode : ScanMode) (sent received : Nat)
  /-- R128 -/
  | scanOverrun (mode : ScanMode) (members : Nat)
  /-- R10 -/
  | lineFault (line : LineId) (cause : FaultCause)
  /-- R174 -/
  | hostSilent (silence : Nat)
  deriving DecidableEq, Repr

/-- The sample record of a telemetry slot (R44, R173). -/
structure Sample where
  line : LineId
  kind : SampleKind
  raw : Nat
  tension : Nat
  filtered : Nat
  band : Band
  length : Nat
  latch : Latch
  motion : DrumMotion
  deriving DecidableEq, Repr

/-- A telemetry slot (R162). -/
structure TelemetrySlot where
  sample : Option Sample := none
  fresh : Bool := false
  deriving DecidableEq, Repr

/-- The frame being sent up-link (R169). An EVENT carries the overrun mark it copied at its start (R171). -/
inductive UplinkFrame where
  | reply (r : Reply)
  | event (e : Event) (overrun : Bool)
  | telemetry (s : Sample)
  deriving DecidableEq, Repr

/-- The settings of SET LINK (R162, R167). -/
structure LinkSettings where
  silence : Nat := 0
  discard : Nat := 10
  hold : Nat := 6
  window : Nat := 4
  retry : Nat := 3
  powerGood : Nat := 1
  deriving DecidableEq, Repr

/-- The Quay Port (R162). -/
structure QuayPort where
  receiver : Receiver := .discarding
  rxBuffer : List HostFrame := []
  replies : List Reply := []
  resetAwaiting : Bool := false
  events : List Event := []
  overrun : Bool := false
  telemetry : Vector TelemetrySlot 16 := Vector.replicate 16 {}
  lastTelemetry : LineId := 15
  silenceTimer : Timer := none
  hostSilent : Bool := false
  transmitter : Option UplinkFrame := none
  link : LinkSettings := {}
  deriving DecidableEq, Repr

/-! ### The part, and the machine -/

/-- The part: every block's state. `freeCount` is the model's own counter for free values (log entry 9). -/
structure Device where
  quay : QuayPort := {}
  lines : Vector LineRecord 16 := Vector.replicate 16 {}
  tend : List TendEntry := []
  bridge : Bridge := {}
  trig : TriggerUnit := {}
  scan : ScanUnit := {}
  bus : Bus := {}
  stations : Vector StationRecord 16 := Vector.replicate 16 {}
  hold : Vector Timer 16 := Vector.replicate 16 none
  freeCount : Nat := 0
  deriving DecidableEq, Repr

/-- The machine: the part and the commands that wait, first in, first out. -/
structure State where
  dev : Device := {}
  pending : List Instr := []
  deriving DecidableEq, Repr

/-- The faults of the machine: none. The spec gives the part nothing that stops it. -/
inductive Fault where
  deriving DecidableEq, Repr

/-- The refusals of the machine. -/
inductive Refusal where
  /-- The host's refusal of a command that has no meaning yet; raised by no arm of exec. Safe: the machine stops. -/
  | notModelled (mnemonic : String)
  deriving DecidableEq, Repr

/-- The part after power-on reset, with its input pins at the given levels (R1, R59, R82, R102, R103, R122, R135,
R151, R162): each debounced level is the level of its input when reset ends (R86). -/
def Device.powerOn (pins : Vector Level 4) : Device :=
  { trig := { inputs := #v[{ pin := pins[0], debounced := pins[0] }, { pin := pins[1], debounced := pins[1] },
      { pin := pins[2], debounced := pins[2] }, { pin := pins[3], debounced := pins[3] }] } }

/-- The machine right after reset: every field at the value the spec states, the pins high
(DESIGN CHOICE, log entry 19), no command waiting. -/
def State.reset : State :=
  { dev := Device.powerOn (Vector.replicate 4 .high), pending := [] }

/-- The same machine with the part changed and the queue as it stands. -/
def State.onDevice (s : State) (f : Device → Device) : State :=
  { s with dev := f s.dev }

end Sys2Proof.Machine
end

