-- ==== Sys2Proof/Machine/Operands.lean ====
section
/-! DEFINITION. Operand forms: byte order and numbers of a frame's fields, ranges and clamping, and the code of every
enumerated value (R159). Each code table stands once: a decoder from the code, and the code of a value. -/

namespace Sys2Proof.Machine

/-! ### Numbers (R159) -/

/-- All lines, or all stations, in ascending number. -/
def all16 : List (Fin 16) := [0, 1, 2, 3, 4, 5, 6, 7, 8, 9, 10, 11, 12, 13, 14, 15]

/-- All trigger entries in ascending number. -/
def allEntries : List EntryId := [0, 1, 2, 3, 4, 5, 6, 7, 8, 9, 10, 11]

/-- All confirmed slots in ascending number. -/
def allSlots : List SlotId := [0, 1, 2, 3, 4, 5, 6, 7]

/-- All trigger inputs. -/
def allInputs : List InputId := [0, 1, 2, 3]

/-- The sixteen numbers that follow `p`, moving up and wrapping from 16 to 1, `p` itself last (R125, R173). -/
def after16 (p : Fin 16) : List (Fin 16) := all16.map fun k => p + 1 + k

/-- Two bytes, high byte first (R159). -/
def word16 (hi lo : Byte) : Word16 := hi ++ lo

/-- The two bytes of a word, high byte first. -/
def wordBytes (w : Word16) : List Byte := [w.extractLsb' 8 8, w.extractLsb' 0 8]

/-- A number as one byte. -/
def byte1 (n : Nat) : List Byte := [BitVec.ofNat 8 n]

/-- A number as two bytes, high byte first. -/
def byte2 (n : Nat) : List Byte := wordBytes (BitVec.ofNat 16 n)

/-- A line or station number from its byte: 1 to 16, or none. -/
def id16 (b : Byte) : Option (Fin 16) :=
  if h : 1 ≤ b.toNat ∧ b.toNat ≤ 16 then some ⟨b.toNat - 1, by omega⟩ else none

/-- A number below `n` from its byte (a group, an input, an entry), or none. -/
def idBelow (n : Nat) (b : Byte) : Option (Fin n) :=
  if h : b.toNat < n then some ⟨b.toNat, h⟩ else none

/-- The byte of a line or station number. -/
def idByte (i : Fin 16) : Byte := BitVec.ofNat 8 (number i)

/-- A numeric setting taken to the nearest end of its range (R2, R165). -/
def clamp (lo hi n : Nat) : Nat := if n < lo then lo else if hi < n then hi else n

/-- The milliseconds of a time as whole seconds, rounded up; 0 for a stopped timer (R168). -/
def secondsLeft (t : Timer) : Nat :=
  match t with
  | none => 0
  | some ms => (ms + 999) / 1000

/-- Membership of a line in a line set (R159). -/
def inSet (s : LineSet) (i : LineId) : Bool := s.getLsbD i.val

/-- The line set of a list of lines. -/
def setOf (ls : List LineId) : LineSet :=
  ls.foldl (fun s i => s ||| BitVec.ofNat 16 (2 ^ i.val)) 0

/-! ### Codes of enumerated values (R159)

Yes and no are coded 1 and 0; drum A and B 0 and 1; every other enumerated value by its place, from 0, in the list
where the manual gives the field's values. A mark "set, clear", a truth value "true, false", a level "high or low" and
a switch "on or off" are enumerated values of that last kind (DEDUCED, log entry 11). "Absent" is not counted among
the values of a field that may be absent (DEDUCED, log entry 10). -/

def codeYes (b : Bool) : Byte := if b then 1 else 0

/-- "set, clear" (R1, R162). -/
def codeMark (b : Bool) : Byte := if b then 0 else 1

/-- "true or false" (R83, R162). -/
def codeTruth (b : Bool) : Byte := if b then 0 else 1

/-- "high or low" (R86). -/
def codeLevel : Level → Byte
  | .high => 0 | .low => 1

/-- "on or off" (R142): `some true` for on. -/
def onOfCode (b : Byte) : Option Bool :=
  if b = 0 then some true else if b = 1 then some false else none

/-- No is 0 and yes is 1. -/
def yesOfCode (b : Byte) : Option Bool :=
  if b = 0 then some false else if b = 1 then some true else none

def codeDrum : Drum → Byte
  | .a => 0 | .b => 1

def drumOfCode (b : Byte) : Option Drum :=
  if b = 0 then some .a else if b = 1 then some .b else none

def codeLineState : LineState → Byte
  | .unassigned => 0 | .stowed => 1 | .runningOut => 2 | .ready => 3 | .locking => 4 | .locked => 5 | .tending => 6
  | .releasing => 7 | .released => 8 | .rewinding => 9 | .fault => 10

def codeOwner : Owner → Byte
  | .quay => 0 | .localOwner => 1

def codeCause : FaultCause → Byte
  | .stationLost => 0 | .latchJammed => 1 | .commandFailed => 2 | .resync => 3

def codeBand : Band → Byte
  | .slack => 0 | .low => 1 | .working => 2 | .high => 3 | .alarm => 4 | .critical => 5

def codeSensor : SensorMark → Byte
  | .ok => 0 | .suspect => 1 | .open_ => 2

def codeCable : CableCheck → Byte
  | .none => 0 | .high => 1 | .low => 2

def cableOfCode (b : Byte) : Option CableCheck :=
  if b = 0 then some .none else if b = 1 then some .high else if b = 2 then some .low else none

def codeKind : SampleKind → Byte
  | .normal => 0 | .checkHigh => 1 | .checkLow => 2

def codeLatch : Latch → Byte
  | .open_ => 0 | .closed => 1 | .moving => 2 | .jammed => 3

def codeBrake : Brake → Byte
  | .set => 0 | .free => 1

def codeMotion : DrumMotion → Byte
  | .stopped => 0 | .heaving => 1 | .paying => 2

def codeActionStatus : ActionStatus → Byte
  | .idle => 0 | .busy => 1 | .done => 2 | .failed => 3

def codeDrive : DriveStatus → Byte
  | .ok => 0 | .driveFault => 1

def codeSlotState : SlotState → Byte
  | .free => 0 | .queued => 1 | .issued => 2 | .awaiting => 3 | .complete => 4

def codeResult : SlotResult → Byte
  | .done => 0 | .failed => 1 | .actionTimeout => 2 | .noResponse => 3 | .refused => 4 | .preempted => 5 | .aborted => 6

/-- NAK, or NO_RESPONSE for silence (R56). -/
def codeAnswer : LastAnswer → Byte
  | .nak => 0 | .silence => 1

def codeReason : UndeliveredReason → Byte
  | .nak => 0 | .noResponse => 1 | .stationLost => 2 | .powerOff => 3 | .unassigned => 4

/-- The source's code and its parameter (R165: 0 for HOST_SILENT and SOFTWARE). -/
def codeSource : TriggerSource → List Byte
  | .lineCritical l => [0, idByte l]
  | .groupAlarm g => [1, BitVec.ofNat 8 g.val]
  | .input n => [2, BitVec.ofNat 8 n.val]
  | .hostSilent => [3, 0]
  | .stationLost st => [4, idByte st]
  | .software => [5, 0]

/-- A source from its code and parameter; the parameter of HOST_SILENT and SOFTWARE is not looked at
(DESIGN CHOICE, log entry 23). -/
def sourceOfCode (code param : Byte) : Option TriggerSource :=
  match code.toNat with
  | 0 => (id16 param).map .lineCritical
  | 1 => (idBelow 4 param).map .groupAlarm
  | 2 => (idBelow 4 param).map .input
  | 3 => some .hostSilent
  | 4 => (id16 param).map .stationLost
  | 5 => some .software
  | _ => none

def codeMode : TriggerMode → Byte
  | .edge => 0 | .level => 1

def modeOfCode (b : Byte) : Option TriggerMode :=
  if b = 0 then some .edge else if b = 1 then some .level else none

def codePolarity : Polarity → Byte
  | .activeHigh => 0 | .activeLow => 1

def polarityOfCode (b : Byte) : Option Polarity :=
  if b = 0 then some .activeHigh else if b = 1 then some .activeLow else none

def codeAction : TriggerAction → Byte
  | .report => 0 | .hold => 1 | .slacken => 2 | .release => 3 | .stopAll => 4

def actionOfCode (b : Byte) : Option TriggerAction :=
  match b.toNat with
  | 0 => some .report
  | 1 => some .hold
  | 2 => some .slacken
  | 3 => some .release
  | 4 => some .stopAll
  | _ => none

def codeTargetMode : TriggerTarget → Byte
  | .sourceLine => 0 | .lineSet _ => 1 | .group _ => 2

/-- The two bytes of a target: a line set, a group, or 0 (R165). -/
def targetBytes : TriggerTarget → List Byte
  | .sourceLine => [0, 0]
  | .lineSet s => wordBytes s
  | .group g => byte2 g.val

/-- Target mode and target from their codes; a group target lies in 0 to 3 (R84). -/
def targetOfCode (mode : Byte) (target : Word16) : Option TriggerTarget :=
  match mode.toNat with
  | 0 => some .sourceLine
  | 1 => some (.lineSet target)
  | 2 => if h : target.toNat < 4 then some (.group ⟨target.toNat, h⟩) else none
  | _ => none

def codeDelivery : DeliveryStatus → Byte
  | .idle => 0 | .pending => 1 | .awaitingAck => 2

def codeScanMode : ScanMode → Byte
  | .off => 0 | .single => 1 | .repeat_ => 2 | .sweep => 3 | .repeatSweep => 4 | .prioritySweep => 5

def scanModeOfCode (b : Byte) : Option ScanMode :=
  match b.toNat with
  | 0 => some .off
  | 1 => some .single
  | 2 => some .repeat_
  | 3 => some .sweep
  | 4 => some .repeatSweep
  | 5 => some .prioritySweep
  | _ => none

def codeMember : MemberState → Byte
  | .outstanding => 0 | .inFlight => 1 | .done => 2

def codePower : Power → Byte
  | .off => 0 | .powering => 1 | .on => 2

def codeMask : PowerMask → Byte
  | .global => 0 | .individual => 1

def maskOfCode (b : Byte) : Option PowerMask :=
  if b = 0 then some .global else if b = 1 then some .individual else none

def codePresence : Presence → Byte
  | .absent => 0 | .present => 1

def codeResetting (b : Bool) : Byte := if b then 1 else 0

def codeOp : StationOp → Byte
  | .park => 0 | .unpark => 1 | .reset => 2

def codeOutcome : OpOutcome → Byte
  | .acked => 0 | .notTaken => 1

def codeSeverity : Severity → Byte
  | .info => 0 | .warning => 1 | .alarm => 2

/-- The cause of LOCAL_RETURNED (R171). -/
def codeReturn : ReturnCause → Byte
  | .timeout => 0 | .handBack => 1

/-- The verb codes of the Station Bus (R161). -/
def codeBusVerb : BusVerb → Byte
  | .poll => 0x00 | .runOut => 0x01 | .lock => 0x02 | .release => 0x03 | .rewind => 0x04 | .heave => 0x05
  | .payout => 0x06 | .hold => 0x07 | .stop => 0x08 | .park => 0x09 | .unpark => 0x0A | .reset => 0x0B
  | .handBack => 0x0C

/-- The Station Bus verb of a posted command. -/
def PostedVerb.bus : PostedVerb → BusVerb
  | .hold => .hold | .heave => .heave | .payout => .payout

/-- The Station Bus verb of a confirmed command. -/
def ConfirmedVerb.bus : ConfirmedVerb → BusVerb
  | .runOut => .runOut | .lock => .lock | .release => .release | .rewind => .rewind

/-- The Station Bus verb of a tend step. -/
def TendDirection.bus : TendDirection → BusVerb
  | .heave => .heave | .payout => .payout

/-- The Station Bus verb of a station operation. -/
def StationOp.bus : StationOp → BusVerb
  | .park => .park | .unpark => .unpark | .reset => .reset

/-- The statuses of a REPLY (R166). -/
def codeStatus : ReplyStatus → Byte
  | .ok => 0x00 | .clamped => 0x01 | .wait => 0x02 | .result => 0x03 | .full => 0x10 | .lineBusy => 0x11
  | .badState => 0x12 | .notAssigned => 0x13 | .localControl => 0x14 | .stationUnavailable => 0x15
  | .stationBusy => 0x16 | .badArgument => 0x20 | .scanBusy => 0x21 | .unknownOperation => 0x22

/-- The kind of a host frame (R159). -/
def codeHostKind : HostKind → Byte
  | .lineCommand => 0x10 | .management => 0x20

def hostKindOfCode (b : Byte) : Option HostKind :=
  if b = 0x10 then some .lineCommand else if b = 0x20 then some .management else none

/-- A field that may be absent: a presence byte, then the field, or as many zeros (R159). -/
def optBytes (width : Nat) (o : Option (List Byte)) : List Byte :=
  match o with
  | none => 0 :: List.replicate width 0
  | some bs => 1 :: bs

end Sys2Proof.Machine
end

