-- ==== Sys2Proof/Machine/Flags.lean ====
section
/-! DEFINITION. The change flags of a station (R137) and their byte (R159). -/

namespace Sys2Proof.Machine

/-- The flags of either. -/
def ChangeFlags.union (a b : ChangeFlags) : ChangeFlags :=
  { presence := a.presence || b.presence, enable := a.enable || b.enable, park := a.park || b.park,
    fault := a.fault || b.fault, reset := a.reset || b.reset }

/-- The flags of `a` that are not in `b`. -/
def ChangeFlags.without (a b : ChangeFlags) : ChangeFlags :=
  { presence := a.presence && !b.presence, enable := a.enable && !b.enable, park := a.park && !b.park,
    fault := a.fault && !b.fault, reset := a.reset && !b.reset }

/-- Whether any flag is set. -/
def ChangeFlags.any (a : ChangeFlags) : Bool := a.presence || a.enable || a.park || a.fault || a.reset

/-- The byte of a set of change flags: PRESENCE_CHANGE in bit 0, ENABLE, PARK, FAULT, RESET in bits 1 to 4 (R159). -/
def ChangeFlags.byte (a : ChangeFlags) : Byte :=
  (if a.presence then 1 else 0) ||| (if a.enable then 2 else 0) ||| (if a.park then 4 else 0)
    ||| (if a.fault then 8 else 0) ||| (if a.reset then 16 else 0)

/-- The set of change flags a byte names (R159). Bits 5 to 7, which name none, are not looked at (model's choice, log entry
23). -/
def ChangeFlags.ofByte (b : Byte) : ChangeFlags :=
  { presence := b.getLsbD 0, enable := b.getLsbD 1, park := b.getLsbD 2, fault := b.getLsbD 3, reset := b.getLsbD 4 }

/-- Drive fault is yes while either drum's drive status is DRIVE_FAULT (R135, R149). -/
def StationRecord.driveFault (r : StationRecord) : Bool :=
  decide (r.driveA = .driveFault) || decide (r.driveB = .driveFault)

/-- A power output is high while the station's power is POWERING or ON (R135). -/
def StationRecord.output (r : StationRecord) : Level :=
  if r.power = .off then .low else .high

/-- A station is available when it is PRESENT, enabled, unparked and powered ON (chapter 8, opening). -/
def StationRecord.available (r : StationRecord) : Bool :=
  decide (r.presence = .present) && r.enabled && !r.parked && decide (r.power = .on)

/-- A station is due for presence probes while its power is ON, it is enabled, and it is ABSENT or parked (R132). -/
def StationRecord.probeDue (r : StationRecord) : Bool :=
  decide (r.power = .on) && r.enabled && (decide (r.presence = .absent) || r.parked)

end Sys2Proof.Machine
end

