-- ==== Sys2Proof/Machine/Frames.lean ====
section
/-! DEFINITION. The frames of both ports (R159, R160, R161, R166, R171, R173): check sequences, the bytes of every
frame the part sends, and the reading of every frame it receives. -/

namespace Sys2Proof.Machine

/-! ### Check sequences (R160) -/

/-- One bit taken into a check register: shifted up by one, combined with the polynomial when the bit that left the
top differs from the bit taken in. -/
def crcBit {w : Nat} (poly reg : BitVec w) (bit : Bool) : BitVec w :=
  if reg.msb != bit then (reg <<< 1) ^^^ poly else reg <<< 1

/-- One byte taken into a check register, from its most significant bit down. -/
def crcByte {w : Nat} (poly reg : BitVec w) (b : Byte) : BitVec w :=
  [7, 6, 5, 4, 3, 2, 1, 0].foldl (fun r i => crcBit poly r (b.getLsbD i)) reg

/-- CRC-16 of the Quay Link: x^16 + x^12 + x^5 + 1, initial value 0xFFFF. -/
def crc16 (bs : List Byte) : BitVec 16 := bs.foldl (crcByte 0x1021#16) 0xFFFF#16

/-- CRC-8 of the Station Bus: x^8 + x^2 + x + 1, initial value 0. -/
def crc8 (bs : List Byte) : BitVec 8 := bs.foldl (crcByte 0x07#8) 0#8

/-! ### Quay Link (R159) -/

/-- The outer layout of a frame on the Quay Link: kind, tag, payload length, payload, CRC-16 high byte first. -/
def quayBytes (kind tag : Byte) (payload : List Byte) : List Byte :=
  let body := kind :: tag :: BitVec.ofNat 8 payload.length :: payload
  body ++ wordBytes (crc16 body)

/-- The characters of a host frame. -/
def HostFrame.bytes (f : HostFrame) : List Byte := quayBytes (codeHostKind f.kind) f.tag f.payload

/-- Reads the characters of a complete frame: the host frame it is, or none where the CRC-16 fails or the kind is not
LINE COMMAND or MANAGEMENT (R163). -/
def HostFrame.read (cs : List Byte) : Option HostFrame :=
  match cs with
  | kind :: tag :: _ :: rest =>
    let n := rest.length - 2
    if wordBytes (crc16 (cs.take (n + 3))) = rest.drop n then
      (hostKindOfCode kind).map fun k => { kind := k, tag := tag, payload := rest.take n }
    else none
  | _ => none

/-! ### Events (R171) -/

/-- The kind code of an event. -/
def Event.kindCode : Event → Byte
  | .bandChange .. => 0x01 | .critical .. => 0x02 | .sensorOpen .. => 0x03 | .sensorRestored .. => 0x04
  | .lengthLimit .. => 0x05 | .tendUndelivered .. => 0x06 | .postedUndelivered .. => 0x07
  | .completionDiscarded .. => 0x08 | .triggerFired .. => 0x09 | .triggerDelivered .. => 0x0A
  | .stationChange .. => 0x0B | .localTaken .. => 0x0C | .localReturned .. => 0x0D | .scanDone .. => 0x0E
  | .scanOverrun .. => 0x0F | .lineFault .. => 0x10 | .hostSilent .. => 0x11

/-- The severity of an event (R171). A STATION_CHANGE is ALARM when its newly set flags include ENABLE_CHANGE (R137), and
so is INFO at a drop-out that finds ENABLE_CHANGE already set (model's choice against the words of R140, log entry 30). -/
def Event.severity : Event → Severity
  | .bandChange _ _ entered _ _ =>
    match entered with
    | .high | .alarm | .critical => .warning
    | .slack | .low | .working => .info
  | .critical .. | .sensorOpen .. | .triggerFired .. | .lineFault .. | .hostSilent .. => .alarm
  | .sensorRestored .. | .localTaken .. | .localReturned .. | .scanDone .. => .info
  | .lengthLimit .. | .tendUndelivered .. | .postedUndelivered .. | .completionDiscarded .. | .scanOverrun .. => .warning
  | .triggerDelivered _ _ _ failed => if 0 < failed then .alarm else .info
  | .stationChange _ newly .. => if newly.enable then .alarm else .info

/-- Subject kind (0 none, 1 line, 2 station, 3 entry) and number (R171). -/
def Event.subject : Event → List Byte
  | .bandChange l .. | .critical l .. | .sensorOpen l .. | .sensorRestored l .. | .lengthLimit l ..
  | .tendUndelivered l .. | .postedUndelivered l .. | .completionDiscarded l .. | .lineFault l .. => [1, idByte l]
  | .triggerFired e .. | .triggerDelivered e .. => [3, BitVec.ofNat 8 e.val]
  | .stationChange st .. | .localReturned st .. => [2, idByte st]
  | .localTaken (some st) .. => [2, idByte st]
  | .localTaken none .. => [2, 31]
  | .scanDone .. | .scanOverrun .. | .hostSilent .. => [0, 0]

/-- The data items of an event, in the order its rule lists them; the subject is not repeated (DEDUCED, log entry
13). Counts, attempt numbers and codes are one byte, tensions, lengths, times and raw samples two (log entry 12). -/
def Event.data : Event → List Byte
  | .bandChange _ left entered f t => [codeBand left, codeBand entered] ++ byte2 f ++ byte2 t
  | .critical _ t c => byte2 t ++ byte2 c
  | .sensorOpen _ cable raw => codeCable cable :: byte2 raw
  | .sensorRestored _ raw => byte2 raw
  | .lengthLimit _ dir length limit step => codeBusVerb dir.bus :: byte2 length ++ byte2 limit ++ byte2 step
  | .tendUndelivered _ dir step attempts answer =>
    codeBusVerb dir.bus :: byte2 step ++ byte1 attempts ++ [codeAnswer answer]
  | .postedUndelivered _ st verb arg attempts reason =>
    [idByte st, codeBusVerb verb.bus] ++ byte2 arg ++ byte1 attempts ++ [codeReason reason]
  | .completionDiscarded _ verb tag result => [codeBusVerb verb.bus, tag, codeResult result]
  | .triggerFired _ source action targets => codeSource source ++ [codeAction action] ++ byte1 targets
  | .triggerDelivered _ action ok bad => codeAction action :: byte1 ok ++ byte1 bad
  | .stationChange _ newly all power presence enabled parked fault resetting =>
    [newly.byte, all.byte, codePower power, codePresence presence, codeYes enabled, codeYes parked, codeYes fault,
      codeResetting resetting]
  | .localTaken _ lines verb => wordBytes lines ++ [verb]
  | .localReturned _ cause lines => codeReturn cause :: wordBytes lines
  | .scanDone mode sent received => codeScanMode mode :: byte1 sent ++ byte1 received
  | .scanOverrun mode members => codeScanMode mode :: byte1 members
  | .lineFault _ cause => [codeCause cause]
  | .hostSilent silence => byte2 silence

/-- The payload of an EVENT frame (R171). -/
def Event.payload (e : Event) (overrun : Bool) : List Byte :=
  [e.kindCode, codeSeverity e.severity, codeMark overrun] ++ e.subject ++ e.data

/-! ### Replies and telemetry (R166, R173) -/

/-- The payload of a REPLY. -/
def Reply.payload (r : Reply) : List Byte := [codeStatus r.status, codeHostKind r.kind, r.code] ++ r.data

/-- The TELEMETRY payload. -/
def Sample.payload (s : Sample) : List Byte :=
  [idByte s.line, codeKind s.kind] ++ byte2 s.raw ++ byte2 s.tension ++ byte2 s.filtered ++ [codeBand s.band]
    ++ byte2 s.length ++ [codeLatch s.latch, codeMotion s.motion]

/-- The characters of an up-link frame. -/
def UplinkFrame.bytes : UplinkFrame → List Byte
  | .reply r => quayBytes 0x90 r.tag r.payload
  | .event e overrun => quayBytes 0xA0 0 (e.payload overrun)
  | .telemetry s => quayBytes 0xB0 0 s.payload

/-! ### Station Bus (R161) -/

/-- The arbitration character of a sender: priority high bit in bit 0, low bit in bit 1, the address highest bit first
in bits 2 to 6, 1 in bit 7. -/
def arbitrationChar (priority sender : Nat) : Byte :=
  BitVec.ofNat 8 (priority / 2 % 2 + 2 * (priority % 2) + 4 * (sender / 16 % 2) + 8 * (sender / 8 % 2)
    + 16 * (sender / 4 % 2) + 32 * (sender / 2 % 2) + 64 * (sender % 2) + 128)

/-- Whether character `a` prevails over `b` on the wire: bit 0 is sent first, and a 0 prevails over a 1 (R112). -/
def prevails (a b : Byte) : Bool :=
  match [0, 1, 2, 3, 4, 5, 6, 7].find? (fun i => a.getLsbD i != b.getLsbD i) with
  | some i => !a.getLsbD i
  | none => false

/-- An arbitration character with sender address 29 (R119). -/
def isPendantChar (c : Byte) : Bool :=
  c.getLsbD 7 && c.getLsbD 2 && c.getLsbD 3 && c.getLsbD 4 && !c.getLsbD 5 && c.getLsbD 6

/-- The first six characters of a downstream frame of the part. -/
def BusFrame.body (f : BusFrame) : List Byte :=
  [arbitrationChar f.priority 30,
    BitVec.ofNat 8 (f.dest % 32 + 32 * (codeDrum f.drum).toNat + 64 * (codeKind f.kind).toNat),
    codeBusVerb f.verb, BitVec.ofNat 8 f.action.val] ++ byte2 f.arg

/-- The seven characters of a downstream frame of the part. -/
def BusFrame.bytes (f : BusFrame) : List Byte := f.body ++ [crc8 f.body]

/-- What a downstream frame asks of its answer (R115): the bits of its second character and whether it is a POLL. -/
structure Asked where
  /-- Destination address. -/
  dest : Nat
  /-- Drum bit. -/
  drum : Nat
  /-- Sample kind bits. -/
  kind : Nat
  poll : Bool
  deriving DecidableEq, Repr

/-- What seven characters of a downstream frame ask for. -/
def askedOf (cs : List Byte) : Asked :=
  let c1 := (cs.getD 1 0).toNat
  { dest := c1 % 32, drum := c1 / 32 % 2, kind := c1 / 64, poll := decide (cs.getD 2 0 = 0) }

/-- What a frame of the part asks for. -/
def BusFrame.asked (f : BusFrame) : Asked := askedOf f.bytes

/-- A downstream frame is complete at seven characters and good when its CRC-8 holds (R119, R161). -/
def goodDownstream (cs : List Byte) : Bool := decide (crc8 (cs.take 6) = cs.getD 6 0)

/-- The report of a STATUS (R104). -/
structure Report where
  drum : Drum
  kind : SampleKind
  latch : Latch
  brake : Brake
  drive : DriveStatus
  action : ActionNo
  status : ActionStatus
  motion : DrumMotion
  resetDone : Bool
  parked : Bool
  length : Nat
  raw : Nat
  deriving DecidableEq, Repr

/-- A valid answer of a station (R104). -/
inductive Answer where
  | ack
  | nak
  | status (r : Report)
  deriving DecidableEq, Repr

/-- The answer-kind bits of a response's first character (R161). -/
def answerKind (c : Byte) : Nat := c.toNat / 32 % 4

/-- How many characters a response has, from its first (R161): 2 for ACK and NAK, 9 for STATUS, and 1 for kind 0. -/
def responseLength (c : Byte) : Nat :=
  match answerKind c with
  | 0 => 1
  | 3 => 9
  | _ => 2

/-- Drum motion from its two bits; code 3 takes the free value `reserved`. -/
def motionOfBits (n : Nat) (reserved : Fin 3) : DrumMotion :=
  match (if n = 3 then reserved.val else n) with
  | 0 => .stopped
  | 1 => .heaving
  | _ => .paying

/-- Sample kind from its two bits (R161); 3 is no kind. -/
def kindOfBits (n : Nat) : Option SampleKind :=
  match n with
  | 0 => some .normal
  | 1 => some .checkHigh
  | 2 => some .checkLow
  | _ => none

/-- Latch from its two bits. -/
def latchOfBits (n : Nat) : Latch :=
  match n with
  | 0 => .open_
  | 1 => .closed
  | 2 => .moving
  | _ => .jammed

/-- Action status from its two bits. -/
def actionStatusOfBits (n : Nat) : ActionStatus :=
  match n with
  | 0 => .idle
  | 1 => .busy
  | 2 => .done
  | _ => .failed

/-- Reads the nine characters of a STATUS (R161); `free` counts the free values used so far. -/
def readReport (cs : List Byte) (kind : SampleKind) (free : Nat) : Report :=
  let c1 := (cs.getD 1 0).toNat
  let c2 := (cs.getD 2 0).toNat
  let c3 := cs.getD 3 0
  { drum := if c1 % 2 = 0 then .a else .b
    kind := kind
    latch := latchOfBits (c1 / 8 % 4)
    brake := if c1 / 32 % 2 = 0 then .set else .free
    drive := if c1 / 64 % 2 = 0 then .ok else .driveFault
    action := ⟨c2 % 16, Nat.mod_lt _ (by decide)⟩
    status := actionStatusOfBits (c2 / 16 % 4)
    motion := motionOfBits (c2 / 64) (Config.reservedMotion free)
    resetDone := c3.getLsbD 0
    parked := c3.getLsbD 1
    length := (word16 (cs.getD 4 0) (cs.getD 5 0)).toNat
    raw := (word16 (cs.getD 6 0) (cs.getD 7 0)).toNat % 4096 }

/-- Checks a complete response against what was asked (R115): its CRC-8, the station's address, and a kind that suits
the frame. None where it is taken as silence. -/
def readAnswer (asked : Asked) (cs : List Byte) (free : Nat) : Option Answer :=
  let c0 := cs.getD 0 0
  let n := responseLength c0
  if cs.length = n ∧ 2 ≤ n ∧ crc8 (cs.take (n - 1)) = cs.getD (n - 1) 0 ∧ c0.toNat % 32 = asked.dest then
    match answerKind c0 with
    | 1 => if asked.poll then none else some .ack
    | 2 => some .nak
    | _ =>
      let c1 := (cs.getD 1 0).toNat
      if asked.poll ∧ c1 % 2 = asked.drum ∧ c1 / 2 % 4 = asked.kind then
        (kindOfBits (c1 / 2 % 4)).map fun k => .status (readReport cs k free)
      else none
  else none

/-- Whether a valid STATUS used the free value of drum-motion code 3. -/
def usesReservedMotion (cs : List Byte) : Bool :=
  decide (cs.length = 9) && decide ((cs.getD 2 0).toNat / 64 = 3)

end Sys2Proof.Machine
end

