-- ==== Sys2Proof/Machine/Ops.lean ====
section
/-! DEFINITION. The named operations that every block uses: reading and writing one record, queueing what goes
up-link, a line's state and FAULT, the end of a slot, removals, and the trigger action in flight. -/

namespace Sys2Proof.Machine

/-! ### Records -/

/-- Writes one place of a fixed table. -/
def put {α : Type} {n : Nat} (v : Vector α n) (i : Fin n) (x : α) : Vector α n := v.set i.val x i.isLt

/-- Writes line record `i`. -/
def Device.setLine (d : Device) (i : LineId) (r : LineRecord) : Device := { d with lines := put d.lines i r }

/-- Changes line record `i`. -/
def Device.updLine (d : Device) (i : LineId) (f : LineRecord → LineRecord) : Device := d.setLine i (f d.lines[i])

/-- Writes station record `st`. -/
def Device.setStation (d : Device) (st : StationId) (r : StationRecord) : Device :=
  { d with stations := put d.stations st r }

/-- Changes station record `st`. -/
def Device.updStation (d : Device) (st : StationId) (f : StationRecord → StationRecord) : Device :=
  d.setStation st (f d.stations[st])

/-- Writes slot `k`. -/
def Device.setSlot (d : Device) (k : SlotId) (s : Slot) : Device :=
  { d with bridge := { d.bridge with slots := put d.bridge.slots k s } }

/-- Writes trigger entry `e`. -/
def Device.setEntry (d : Device) (e : EntryId) (en : TriggerEntry) : Device :=
  { d with trig := { d.trig with entries := put d.trig.entries e en } }

/-- Whether a line is assigned. -/
def LineRecord.assigned (r : LineRecord) : Bool := r.binding.isSome

/-- Whether a line is assigned to station `st`. -/
def LineRecord.onStation (r : LineRecord) (st : StationId) : Bool :=
  match r.binding with
  | some b => decide (b.station = st)
  | none => false

/-- The assigned lines of a station, in ascending line number. -/
def Device.linesOf (d : Device) (st : StationId) : List LineId := all16.filter fun i => d.lines[i].onStation st

/-- The assigned lines, in ascending line number. -/
def Device.assignedLines (d : Device) : List LineId := all16.filter fun i => d.lines[i].assigned

/-- The assigned line that holds a station and drum (R11). -/
def Device.lineAt (d : Device) (st : StationId) (drum : Drum) : Option LineId :=
  all16.find? fun i =>
    match d.lines[i].binding with
    | some b => decide (b.station = st ∧ b.drum = drum)
    | none => false

/-- Whether a line is assigned and its station available: eligible for polls (R125). -/
def Device.eligible (d : Device) (i : LineId) : Bool :=
  match d.lines[i].binding with
  | some b => d.stations[b.station].available
  | none => false

/-- Moving states (R8). -/
def LineState.moving : LineState → Bool
  | .runningOut | .locking | .releasing | .rewinding => true
  | .unassigned | .stowed | .ready | .locked | .tending | .released | .fault => false

/-- Held states (R8). -/
def LineState.held : LineState → Bool
  | .locked | .tending => true
  | .unassigned | .stowed | .runningOut | .ready | .locking | .releasing | .released | .rewinding | .fault => false

/-- Safe states (R8). -/
def LineState.safe : LineState → Bool
  | .stowed | .ready | .released | .fault => true
  | .unassigned | .runningOut | .locking | .locked | .tending | .releasing | .rewinding => false

/-! ### Up-link (R169 to R173) -/

/-- The fresh telemetry slot the search of R173 finds, with its record. -/
def QuayPort.nextSample (q : QuayPort) : Option (LineId × Sample) :=
  (after16 q.lastTelemetry).findSome? fun i =>
    if q.telemetry[i].fresh then q.telemetry[i].sample.map fun s => (i, s) else none

/-- The up-link arbiter (R169): when the transmitter is IDLE, starts the next REPLY, EVENT or TELEMETRY frame. -/
def QuayPort.startNext (q : QuayPort) : QuayPort :=
  match q.transmitter with
  | some _ => q
  | none =>
    match q.replies with
    | r :: rs => { q with replies := rs, transmitter := some (.reply r) }
    | [] =>
      match q.events with
      | e :: es => { q with events := es, overrun := false, transmitter := some (.event e q.overrun) }
      | [] =>
        match q.nextSample with
        | some (i, s) =>
          { q with telemetry := put q.telemetry i { q.telemetry[i] with fresh := false }, lastTelemetry := i,
                   transmitter := some (.telemetry s) }
        | none => q

/-- The event queue after an arrival, with the overrun mark (R170). -/
def enterEvent (events : List Event) (overrun : Bool) (e : Event) : List Event × Bool :=
  if events.length < 16 then (events ++ [e], overrun)
  else if e.severity = .alarm then
    if events.any fun x => decide (x.severity ≠ .alarm) then
      (events.eraseP (fun x => decide (x.severity ≠ .alarm)) ++ [e], overrun)
    else (events, true)
  else (events, overrun)

/-- A block queues an event (R170); an idle transmitter takes it at once (R169, log entry 6). -/
def Device.queueEvent (d : Device) (e : Event) : Device :=
  let p := enterEvent d.quay.events d.quay.overrun e
  { d with quay := { d.quay with events := p.1, overrun := p.2 }.startNext }

/-- Queues events one after another. -/
def Device.queueEvents (d : Device) (es : List Event) : Device := es.foldl Device.queueEvent d

/-- Places a REPLY at the tail of the reply queue (R164). -/
def Device.pushReply (d : Device) (r : Reply) : Device :=
  { d with quay := { d.quay with replies := d.quay.replies ++ [r] }.startNext }

/-- Places a sample record in its line's telemetry slot (R172). -/
def Device.placeSample (d : Device) (s : Sample) : Device :=
  { d with quay := { d.quay with
      telemetry := put d.quay.telemetry s.line { sample := some s, fresh := true } }.startNext }

/-! ### The exchange in flight -/

/-- The owner removes its item while the exchange is on the bus: the exchange is detached (R57, R65, R75, R97). -/
def Device.detach (d : Device) (o : FrameOwner) : Device :=
  match d.bus.exchange with
  | some x => if x.owner = o then { d with bus := { d.bus with exchange := some { x with detached := true } } } else d
  | none => d

/-! ### Tend request list: removal (R48) -/

/-- Removes a line's tend request entry, detaching its exchange if it is SENT. -/
def Device.removeTend (d : Device) (i : LineId) : Device :=
  let d' := { d with tend := d.tend.filter fun t => decide (t.line ≠ i) }
  if d.tend.any fun t => decide (t.line = i) && t.sent then d'.detach (.tend i) else d'

/-! ### A line's state -/

/-- The Line Table moves a line; a line that leaves TENDING loses its tend request entry (R9). -/
def Device.setState (d : Device) (i : LineId) (s : LineState) : Device :=
  let d' := d.updLine i fun r => { r with state := s }
  if d.lines[i].state = .tending ∧ s ≠ .tending then d'.removeTend i else d'

/-- The Line Table puts a line into FAULT (R10): the cause is stored, and LINE_FAULT queued unless the line already
held FAULT with that cause. -/
def Device.putFault (d : Device) (i : LineId) (c : FaultCause) : Device :=
  let r := d.lines[i]
  let d' := (d.setState i .fault).updLine i fun r => { r with cause := some c }
  if r.state = .fault ∧ r.cause = some c then d' else d'.queueEvent (.lineFault i c)

/-- Sets resync pending. -/
def Device.setResync (d : Device) (i : LineId) : Device := d.updLine i fun r => { r with resync := true }

/-- Sets resync pending unless the line is in FAULT (R13, R14, R23). -/
def Device.resyncUnlessFault (d : Device) (i : LineId) : Device :=
  if d.lines[i].state = .fault then d else d.setResync i

/-- Restores a slot's saved prior state, giving LOCKED for TENDING where R9 rules. -/
def Device.restoreState (d : Device) (i : LineId) (prior : LineState) : Device :=
  let r := d.lines[i]
  if prior = .tending ∧ (r.band = .critical ∨ r.sensor = .open_ ∨ r.owner = .localOwner) then d.setState i .locked
  else d.setState i prior

/-! ### Confirmed slots -/

/-- A slot in QUEUED, ISSUED or AWAITING is live (R66). -/
def Slot.live (s : Slot) : Bool :=
  match s.state with
  | .queued | .issued | .awaiting => true
  | .free | .complete => false

/-- Whether a slot's command is for a line. -/
def Slot.forLine (s : Slot) (i : LineId) : Bool :=
  match s.command with
  | some c => decide (c.line = i)
  | none => false

/-- The live slot of a line (R66: at most one). -/
def Device.liveSlot (d : Device) (i : LineId) : Option SlotId :=
  allSlots.find? fun k => d.bridge.slots[k].live && d.bridge.slots[k].forLine i

/-- The acceptance order of a slot; FREE slots have none. -/
def Slot.orderKey (s : Slot) : Nat :=
  match s.command with
  | some c => c.order
  | none => 0

/-- Inserts a slot into a list kept in acceptance order. -/
def insertByOrder (d : Device) (k : SlotId) : List SlotId → List SlotId
  | [] => [k]
  | j :: js =>
    if d.bridge.slots[k].orderKey ≤ d.bridge.slots[j].orderKey then k :: j :: js else j :: insertByOrder d k js

/-- The slots that satisfy a test, in acceptance order. -/
def Device.slotsInOrder (d : Device) (p : Slot → Bool) : List SlotId :=
  (allSlots.filter fun k => p d.bridge.slots[k]).foldr (insertByOrder d) []

/-- The transitional state of a confirmed verb (section 1.5). -/
def ConfirmedVerb.transitional : ConfirmedVerb → LineState
  | .runOut => .runningOut | .lock => .locking | .release => .releasing | .rewind => .rewinding

/-- The target state of a confirmed verb (section 1.5). -/
def ConfirmedVerb.target : ConfirmedVerb → LineState
  | .runOut => .ready | .lock => .locked | .release => .released | .rewind => .stowed

/-- A follow-up timer of 100 ms runs while its line has an AWAITING slot or a trigger action in flight (R133). -/
def Device.followUpDue (d : Device) (i : LineId) : Bool :=
  d.lines[i].triggerInFlight.isSome
    || allSlots.any fun k => decide (d.bridge.slots[k].state = .awaiting) && d.bridge.slots[k].forLine i

/-- Starts or stops a line's follow-up timer after a change of what it watches (R133). -/
def Device.syncFollowUp (d : Device) (i : LineId) : Device :=
  let t := if d.followUpDue i then (if d.scan.followUp[i].isSome then d.scan.followUp[i] else some 100) else none
  { d with scan := { d.scan with followUp := put d.scan.followUp i t } }

/-- The Line Table applies a slot's result (R13 to R16); `before` is the slot's state when it ended. -/
def Device.applyResult (d : Device) (c : SlotCommand) (before : SlotState) (res : SlotResult) : Device :=
  let i := c.line
  let inTransit := d.lines[i].state = c.verb.transitional
  match res with
  | .done => if inTransit then d.setState i c.verb.target else d.resyncUnlessFault i
  | .failed | .actionTimeout | .refused | .noResponse =>
    if inTransit then d.putFault i .commandFailed else d.resyncUnlessFault i
  | .aborted | .preempted =>
    if before = .queued then (if inTransit then d.restoreState i c.prior else d) else d.setResync i

/-- A live slot ends with a result (R75): it becomes COMPLETE with its action timer stopped, an exchange of it is
detached, the result is reported to the Line Table, and the discard timer starts. -/
def Device.endSlot (d : Device) (k : SlotId) (res : SlotResult) : Device :=
  let s := d.bridge.slots[k]
  match s.command with
  | none => d
  | some c =>
    if s.live then
      let s' := { s with state := .complete, result := some res, actionTimer := none }
      let d := (d.setSlot k s').detach (.confirmed k)
      let d := { d with bridge := { d.bridge with retries := d.bridge.retries.erase k } }
      let d := d.applyResult c s.state res
      let d := d.setSlot k { s' with discardTimer := some (d.quay.link.discard * 1000) }
      d.syncFollowUp c.line
    else d

/-- Ends slots one after another with the same result. -/
def Device.endSlots (d : Device) (ks : List SlotId) (res : SlotResult) : Device :=
  ks.foldl (fun d k => d.endSlot k res) d

/-- Ends the line's live slot, if it has one. -/
def Device.endLiveSlot (d : Device) (i : LineId) (res : SlotResult) : Device :=
  match d.liveSlot i with
  | some k => d.endSlot k res
  | none => d

/-- Ends, in acceptance order, every slot that satisfies a test. -/
def Device.endSlotsWhere (d : Device) (p : Slot → Bool) (res : SlotResult) : Device :=
  d.endSlots (d.slotsInOrder p) res

/-- Whether a live slot's line is assigned to a station. -/
def Device.slotOnStation (d : Device) (st : StationId) (s : Slot) : Bool :=
  match s.command with
  | some c => d.lines[c.line].onStation st
  | none => false

/-! ### Posted queue: removal from outside (R65) -/

/-- The event of a posted entry given up (R64). -/
def PostedEntry.undelivered (p : PostedEntry) (reason : UndeliveredReason) : Event :=
  .postedUndelivered p.line p.station p.verb p.arg p.attempts reason

/-- Removes the posted entries that satisfy a test, each with its POSTED_UNDELIVERED, in queue order; an entry removed
while SENT is detached from its exchange. -/
def Device.removePosted (d : Device) (p : PostedEntry → Bool) (reason : UndeliveredReason) : Device :=
  let gone := d.bridge.posted.filter p
  let d' := { d with bridge := { d.bridge with posted := d.bridge.posted.filter fun x => !p x } }
  let d'' := if gone.any fun x => x.sent then d'.detach .posted else d'
  d''.queueEvents (gone.map fun x => x.undelivered reason)

/-! ### STATION source (R111) -/

/-- The station operation held for a station, with its attempt count (R135). -/
def Device.stationOperation (d : Device) (st : StationId) : Option (StationOp × Nat) :=
  d.bus.stationSource.findSome? fun x =>
    match x.frame with
    | .op o => if x.station = st then some (o, x.attempts) else none
    | .stop _ => none

/-- Places a frame at the tail of the STATION source, with attempt count 0. -/
def Device.placeStation (d : Device) (st : StationId) (f : StationFrame) : Device :=
  { d with bus := { d.bus with stationSource := d.bus.stationSource ++ [{ station := st, frame := f }] } }

/-- Places an abort STOP, unless one for the same station and drum is held (R78). -/
def Device.placeStop (d : Device) (st : StationId) (drum : Drum) : Device :=
  if d.bus.stationSource.any fun x => decide (x.station = st ∧ x.frame = .stop drum) then d
  else d.placeStation st (.stop drum)

/-- Whether the exchange in flight is of the STATION source's head. -/
def Device.stationHeadSent (d : Device) : Bool :=
  match d.bus.exchange with
  | some x => decide (x.owner = .station) && !x.detached
  | none => false

/-- Drops the frames of the STATION source that satisfy a test; the head dropped while on the bus is detached. -/
def Device.dropStation (d : Device) (p : StationItem → Bool) : Device :=
  let d' := { d with bus := { d.bus with stationSource := d.bus.stationSource.filter fun x => !p x } }
  match d.bus.stationSource with
  | h :: _ => if p h && d.stationHeadSent then d'.detach .station else d'
  | [] => d'

/-- An abort STOP for a station. -/
def StationItem.isStopFor (st : StationId) (x : StationItem) : Bool :=
  match x.frame with
  | .stop _ => decide (x.station = st)
  | .op _ => false

/-- The station operation of a station. -/
def StationItem.isOpFor (st : StationId) (x : StationItem) : Bool :=
  match x.frame with
  | .op _ => decide (x.station = st)
  | .stop _ => false

/-! ### Trigger action in flight (R23, R100) -/

/-- The line's trigger action in flight becomes absent; its release timer stops (R100). -/
def Device.clearInFlight (d : Device) (i : LineId) : Device :=
  let d := d.updLine i fun r => { r with triggerInFlight := none }
  let d := { d with trig := { d.trig with releaseTimers := put d.trig.releaseTimers i none } }
  d.syncFollowUp i

/-- A trigger-driven release ends (R23): DONE sets a RELEASING line to RELEASED, any other ending puts it in FAULT with
cause COMMAND_FAILED; a line in another state keeps it with resync pending unless it is in FAULT. Without a trigger
action in flight nothing happens. -/
def Device.endRelease (d : Device) (i : LineId) (done : Bool) : Device :=
  if d.lines[i].triggerInFlight.isSome then
    let d' :=
      if d.lines[i].state = .releasing then
        (if done then d.setState i .released else d.putFault i .commandFailed)
      else d.resyncUnlessFault i
    d'.clearInFlight i
  else d

end Sys2Proof.Machine
end

