-- ==== Sys2Proof/Machine/Scan.lean ====
section
/-! DEFINITION. Scan Unit (chapter 7): the poll list, probes, sweeps, applying a configuration, the interval. -/

namespace Sys2Proof.Machine

/-! ### Poll list (R129) -/

/-- Whether an entry is for a line. -/
def PollEntry.isLine (i : LineId) : PollEntry → Bool
  | .line j _ _ => decide (j = i)
  | .probe _ => false

/-- Whether an entry is a probe of a station. -/
def PollEntry.isProbe (st : StationId) : PollEntry → Bool
  | .line .. => false
  | .probe s => decide (s = st)

/-- Adds marks to an entry of a line. -/
def PollEntry.mark (i : LineId) (sweep followUp : Bool) : PollEntry → PollEntry
  | .line j s f => if j = i then .line j (s || sweep) (f || followUp) else .line j s f
  | .probe st => .probe st

/-- A need makes a line due. -/
def addLine (l : List PollEntry) (i : LineId) (sweep followUp : Bool) : List PollEntry :=
  if l.any (PollEntry.isLine i) then l.map (PollEntry.mark i sweep followUp) else l ++ [.line i sweep followUp]

/-- A need makes a station due for a probe. -/
def addProbe (l : List PollEntry) (st : StationId) : List PollEntry :=
  if l.any (PollEntry.isProbe st) then l else l ++ [.probe st]

/-- An entry whose POLL has lost arbitration returns to the head with its marks; an entry placed for the same line or
station meanwhile is merged into it (log entry 16). -/
def returnEntry (l : List PollEntry) (p : PollEntry) : List PollEntry :=
  match p with
  | .line i s f =>
    let s' := l.any fun x => match x with | .line j sj _ => decide (j = i) && sj | .probe _ => false
    let f' := l.any fun x => match x with | .line j _ fj => decide (j = i) && fj | .probe _ => false
    .line i (s || s') (f || f') :: l.filter fun x => !x.isLine i
  | .probe st => .probe st :: l.filter fun x => !x.isProbe st

/-- Makes a line due. -/
def Device.makeLineDue (d : Device) (sweep followUp : Bool) (i : LineId) : Device :=
  { d with scan := { d.scan with pollList := addLine d.scan.pollList i sweep followUp } }

/-- Makes a probe due. -/
def Device.makeProbeDue (d : Device) (st : StationId) : Device :=
  { d with scan := { d.scan with pollList := addProbe d.scan.pollList st } }

/-- Sets a station's probe timer. -/
def Device.setProbe (d : Device) (st : StationId) (t : Timer) : Device :=
  { d with scan := { d.scan with probe := put d.scan.probe st t } }

/-- The Scan Unit takes a change of a station's power, enable, presence or park (R132): a station that becomes due is
probed at once and its timer starts; one that is no longer due has its timer stopped. -/
def Device.syncProbe (d : Device) (st : StationId) : Device :=
  if d.stations[st].probeDue then
    if d.scan.probe[st].isSome then d else (d.makeProbeDue st).setProbe st (some 1000)
  else d.setProbe st none

/-! ### Sweeps (R125, R126) -/

/-- Changes the state of a member. -/
def Sweep.setMember (w : Sweep) (i : LineId) (m : MemberState) : Sweep :=
  { w with members := w.members.map fun p => if p.1 = i then (p.1, m) else p }

/-- Whether every member is DONE. -/
def Sweep.finished (w : Sweep) : Bool := w.members.all fun p => decide (p.2 = .done)

/-- How many members are OUTSTANDING or IN_FLIGHT. -/
def Sweep.remaining (w : Sweep) : Nat := w.members.countP fun p => decide (p.2 ≠ .done)

/-- Changes the current sweep, if there is one. -/
def Device.updSweep (d : Device) (f : Sweep → Sweep) : Device :=
  { d with scan := { d.scan with sweep := d.scan.sweep.map f } }

/-- Whether a mode repeats its sweep at the interval. -/
def ScanMode.repeats : ScanMode → Bool
  | .repeat_ | .repeatSweep | .prioritySweep => true
  | .off | .single | .sweep => false

/-- The outside line of PRIORITY_SWEEP (R125). -/
def Device.outsideLine (d : Device) : Option LineId :=
  (after16 d.scan.pointer).find? fun i =>
    inSet d.scan.config.scanSet i && !inSet d.scan.config.prioritySet i && d.eligible i

/-- The members of a sweep that starts now, in ascending line number (R125). -/
def Device.sweepMembers (d : Device) : List LineId :=
  let c := d.scan.config
  match c.mode with
  | .off => []
  | .single | .repeat_ => [c.target].filter d.eligible
  | .sweep | .repeatSweep => all16.filter fun i => inSet c.scanSet i && d.eligible i
  | .prioritySweep =>
    all16.filter fun i => (inSet c.prioritySet i && d.eligible i) || decide (d.outsideLine = some i)

/-- A sweep that has finished with no pending configuration and no next sweep due (R126): SINGLE and SWEEP queue
SCAN_DONE and go to OFF, the other modes wait for the interval timer. -/
def Device.closeSweep (d : Device) : Device :=
  match d.scan.sweep with
  | none => d
  | some w =>
    let c := d.scan.config
    let d' := { d with scan := { d.scan with sweep := none } }
    if c.mode.repeats then d'
    else
      let d' := d'.queueEvent (.scanDone c.mode w.sent w.received)
      { d' with scan := { d'.scan with config := { d'.scan.config with mode := .off } } }

/-- A sweep starts (R125); one with no members has finished at its start. It is called with no pending configuration
and no next sweep due. -/
def Device.startSweep (d : Device) : Device :=
  let ms := d.sweepMembers
  let pointer := if d.scan.config.mode = .prioritySweep then d.outsideLine.getD d.scan.pointer else d.scan.pointer
  let d := { d with scan := { d.scan with
    pointer := pointer, sweep := some { members := ms.map fun i => (i, .outstanding) } } }
  if ms.isEmpty then d.closeSweep else ms.foldl (fun d i => d.makeLineDue true false i) d

/-- Applies a configuration (R124). -/
def Device.applyConfig (d : Device) (c : ScanConfig) : Device :=
  let d := { d with scan := { d.scan with config := c, pending := none, intervalTimer := none, sweepDue := false } }
  match c.mode with
  | .off => d
  | .single | .sweep => d.startSweep
  | .repeat_ | .repeatSweep | .prioritySweep =>
    let d := d.startSweep
    { d with scan := { d.scan with intervalTimer := some (c.interval * 10) } }

/-- The current sweep has finished (R126). -/
def Device.finishSweep (d : Device) : Device :=
  if d.scan.config.mode.repeats then
    let due := d.scan.sweepDue
    let d := d.closeSweep
    if due then
      match d.scan.pending with
      | some c => d.applyConfig c
      | none => { d with scan := { d.scan with sweepDue := false } }.startSweep
    else d
  else
    let d := d.closeSweep
    match d.scan.pending with
    | some c => d.applyConfig c
    | none => d

/-- Acts if the current sweep has just finished. -/
def Device.checkSweep (d : Device) : Device :=
  match d.scan.sweep with
  | some w => if w.finished then d.finishSweep else d
  | none => d

/-- A member becomes DONE, with a STATUS received or without (R126). -/
def Device.memberDone (d : Device) (i : LineId) (received : Bool) : Device :=
  (d.updSweep fun w =>
    let w := w.setMember i .done
    if received then { w with received := w.received + 1 } else w).checkSweep

/-- The Scan Unit's check of the head of the poll list before it is offered (R129). The first argument bounds the
number of removals; a list holds at most 32 entries, and entries placed by a removal are of eligible lines. -/
def Device.pruneHead : Nat → Device → Device
  | 0, d => d
  | n + 1, d =>
    match d.scan.pollList with
    | [] => d
    | .line i s _ :: rest =>
      if d.eligible i then d
      else
        let d := { d with scan := { d.scan with pollList := rest } }
        Device.pruneHead n (if s then d.memberDone i false else d)
    | .probe st :: rest =>
      if d.stations[st].probeDue then d
      else Device.pruneHead n { d with scan := { d.scan with pollList := rest } }

/-- The drum a probe names (R132). -/
def Device.probeDrum (d : Device) (st : StationId) : Drum :=
  if (d.lineAt st .a).isSome then .a else if (d.lineAt st .b).isSome then .b else .a

/-- The line poll count after a sending, and the sample kind chosen with it (R130). -/
def LineRecord.pollKind (r : LineRecord) : SampleKind :=
  let count := (r.pollCount + 1) % 8
  let check := decide (r.sensor ≠ .ok) || decide (count = 0)
  match r.config.cable with
  | .none => .normal
  | .high => if check then .checkHigh else .normal
  | .low => if check then .checkLow else .normal

/-! ### Timers -/

/-- The interval timer expires (R128, R134). -/
def Device.intervalExpires (d : Device) : Device :=
  if d.scan.intervalTimer.isNone then d
  else
    let c := d.scan.config
    let next := if c.mode.repeats then some (c.interval * 10) else none
    let d := { d with scan := { d.scan with intervalTimer := next } }
    match d.scan.sweep with
    | none =>
      match d.scan.pending with
      | some p => d.applyConfig p
      | none => d.startSweep
    | some w =>
      if c.mode.repeats && !d.scan.sweepDue then
        { d with scan := { d.scan with sweepDue := true } }.queueEvent (.scanOverrun c.mode w.remaining)
      else d

/-- A line's follow-up timer expires (R133). -/
def Device.followUpExpires (d : Device) (i : LineId) : Device :=
  if d.scan.followUp[i].isNone then d
  else if d.followUpDue i then
    let d := d.makeLineDue false true i
    { d with scan := { d.scan with followUp := put d.scan.followUp i (some 100) } }
  else { d with scan := { d.scan with followUp := put d.scan.followUp i none } }

/-- A station's probe timer expires (R132). -/
def Device.probeExpires (d : Device) (st : StationId) : Device :=
  if d.scan.probe[st].isNone then d
  else if d.stations[st].probeDue then (d.makeProbeDue st).setProbe st (some 1000)
  else d.setProbe st none

end Sys2Proof.Machine
end

