-- ==== Sys2Proof/Machine/Triggers.lean ====
section
/-! DEFINITION. Release Trigger Unit (chapter 5): the source conditions, firing, the targets and effects of an action,
delivery, and ALM. -/

namespace Sys2Proof.Machine

/-! ### Source conditions (R85 to R87) -/

/-- Whether a line is assigned with the given group. -/
def LineRecord.inGroup (r : LineRecord) (g : GroupId) : Bool :=
  match r.binding with
  | some b => decide (b.group = g)
  | none => false

/-- Whether a line's band is ALARM or CRITICAL. -/
def LineRecord.inAlarm (r : LineRecord) : Bool := decide (r.band = .alarm) || decide (r.band = .critical)

/-- The present value of an entry's source condition: LINE_CRITICAL and GROUP_ALARM (R85), INPUT by the entry's
polarity (R86), HOST_SILENT and STATION_LOST (R87). SOFTWARE has no duration. -/
def Device.conditionOf (d : Device) (en : TriggerEntry) : Bool :=
  match en.source with
  | .lineCritical i => d.lines[i].assigned && decide (d.lines[i].band = .critical)
  | .groupAlarm g => all16.any fun i => d.lines[i].inGroup g && d.lines[i].inAlarm
  | .input n =>
    match en.polarity with
    | .activeHigh => decide (d.trig.inputs[n].debounced = .high)
    | .activeLow => decide (d.trig.inputs[n].debounced = .low)
  | .hostSilent => d.quay.hostSilent
  | .stationLost st => d.trig.stationLost[st]
  | .software => false

/-! ### ALM (R101) -/

/-- The two conditions that assert ALM. -/
def Device.almCondition (d : Device) : Bool :=
  (all16.any fun i => d.lines[i].assigned && d.lines[i].inAlarm)
    || allEntries.any fun e =>
        decide (d.trig.entries[e].action ≠ .report) && decide (d.trig.entries[e].status ≠ .idle)

/-- Re-forms ALM. -/
def Device.reformAlm (d : Device) : Device := { d with trig := { d.trig with alm := d.almCondition } }

/-! ### Delivery (R98) -/

/-- Whether a target has an outcome. -/
def TargetState.ended : TargetState → Bool
  | .succeeded | .failed => true
  | .waiting | .sent | .broadcast => false

/-- Whether a record has nothing left to deliver; a STOP_ALL record waits for its broadcast (R96, R98). -/
def ActionRecord.complete (r : ActionRecord) : Bool :=
  decide (r.action ≠ .stopAll) && r.targets.all fun t => t.state.ended

/-- How many targets of a record stand in a state. -/
def ActionRecord.count (r : ActionRecord) (st : TargetState) : Nat :=
  r.targets.countP fun t => decide (t.state = st)

/-- The delivery status in which an entry waits after a delivery or a REPORT firing (R91, R98). -/
def TriggerEntry.restStatus (en : TriggerEntry) : DeliveryStatus :=
  if en.mode = .level ∧ en.source ≠ .software then .awaitingAck else .idle

/-- Delivers a record (R98). -/
def Device.deliver (d : Device) (r : ActionRecord) : Device :=
  let ok := r.count .succeeded
  let bad := r.count .failed
  let d := { d with trig := { d.trig with actions := d.trig.actions.filter fun x => decide (x.entry ≠ r.entry) } }
  let en := d.trig.entries[r.entry]
  let d := d.setEntry r.entry { en with succeeded := ok, failed := bad }
  let d := d.queueEvent (.triggerDelivered r.entry r.action ok bad)
  (d.setEntry r.entry { en with succeeded := ok, failed := bad, status := en.restStatus }).reformAlm

/-- Delivers every record whose targets all have outcomes (R98). Several that one drop-out or power-off completes (R97) are
delivered in list order, oldest first (model's choice, log entry 22). -/
def Device.deliverComplete (d : Device) : Device :=
  (d.trig.actions.filter ActionRecord.complete).foldl Device.deliver d

/-- Changes the target of a record that names a line. -/
def ActionRecord.updTarget (r : ActionRecord) (i : LineId) (f : Target → Target) : ActionRecord :=
  { r with targets := r.targets.map fun t => if t.line = i then f t else t }

/-- Changes a target of the record of entry `e`. -/
def Device.updTarget (d : Device) (e : EntryId) (i : LineId) (f : Target → Target) : Device :=
  { d with trig := { d.trig with actions := d.trig.actions.map fun r => if r.entry = e then r.updTarget i f else r } }

/-- The target of a record that names a line. -/
def Device.targetOf (d : Device) (e : EntryId) (i : LineId) : Option Target :=
  d.trig.actions.findSome? fun r => if r.entry = e then r.targets.find? fun t => decide (t.line = i) else none

/-! ### Targets (R92) -/

/-- The target lines of a firing, in ascending line number; REPORT has none and STOP_ALL every assigned line. -/
def Device.targetLines (d : Device) (en : TriggerEntry) : List LineId :=
  match en.action with
  | .report => []
  | .stopAll => d.assignedLines
  | .hold | .slacken | .release =>
    match en.target with
    | .sourceLine =>
      match en.source with
      | .lineCritical i => [i]
      | .groupAlarm _ | .input _ | .hostSilent | .stationLost _ | .software => []
    | .lineSet s => all16.filter fun i => inSet s i
    | .group g => all16.filter fun i => d.lines[i].inGroup g

/-- The class of a target by its line's state (R92, the table), for a line that is assigned and whose station is
available. -/
def classOfState (a : TriggerAction) (s : LineState) : TargetState :=
  match a with
  | .stopAll => .broadcast
  | .report => .failed
  | .hold =>
    match s with
    | .locked | .tending | .runningOut | .locking | .rewinding => .waiting
    | .releasing | .released => .succeeded
    | .stowed | .ready | .fault | .unassigned => .failed
  | .slacken =>
    match s with
    | .locked | .tending => .waiting
    | .runningOut | .locking | .rewinding | .releasing | .released => .succeeded
    | .stowed | .ready | .fault | .unassigned => .failed
  | .release =>
    match s with
    | .locked | .tending | .runningOut | .locking | .rewinding | .releasing => .waiting
    | .released => .succeeded
    | .stowed | .ready | .fault | .unassigned => .failed

/-- A target of a firing, classed by its line's state and station. -/
def Device.classify (d : Device) (a : TriggerAction) (i : LineId) : Target :=
  let st := if a = .stopAll then .broadcast else if d.eligible i then classOfState a d.lines[i].state else .failed
  { line := i, state := st, step := if a = .slacken then d.lines[i].config.tendStep else 0 }

/-! ### Effects on lines and slots (R22, R93) -/

/-- The effects of a firing on one target. A target with no frame of HOLD or RELEASE leaves its line as it stands. -/
def Device.targetEffect (a : TriggerAction) (d : Device) (t : Target) : Device :=
  let i := t.line
  let s := d.lines[i].state
  match a with
  | .hold =>
    if t.state = .waiting then
      if s.held then (if s = .tending then d.setState i .locked else d)
      else (d.setResync i).endLiveSlot i .preempted
    else d
  | .release =>
    if t.state = .waiting then
      let d := if s = .releasing then d else d.setState i .releasing
      match d.liveSlot i with
      | some k =>
        match d.bridge.slots[k].command with
        | some c => if c.verb = .release then d else d.endSlot k .preempted
        | none => d
      | none => d
    else d
  | .stopAll =>
    if s = .tending then d.setState i .locked
    else if s.moving then d.setResync i
    else d
  | .slacken | .report => d

/-- The effects of a firing, in the record's target order; STOP_ALL then ends every ISSUED or AWAITING slot. -/
def Device.firingEffects (d : Device) (a : TriggerAction) (ts : List Target) : Device :=
  let d := ts.foldl (Device.targetEffect a) d
  if a = .stopAll then
    d.endSlotsWhere (fun s => decide (s.state = .issued) || decide (s.state = .awaiting)) .preempted
  else d

/-! ### Firing (R88 to R91) -/

/-- An entry fires (R91). -/
def Device.fire (d : Device) (e : EntryId) : Device :=
  let en := d.trig.entries[e]
  let lines := d.targetLines en
  let d := d.queueEvent (.triggerFired e en.source en.action lines.length)
  if en.action = .report then
    (d.setEntry e { en with succeeded := 0, failed := 0, status := en.restStatus }).reformAlm
  else
    let ts := lines.map (d.classify en.action)
    let r : ActionRecord := { entry := e, action := en.action, targets := ts }
    let d := d.setEntry e { en with status := .pending }
    let d := { d with trig := { d.trig with actions := d.trig.actions ++ [r] } }
    let d := (d.firingEffects en.action ts).reformAlm
    if r.complete then d.deliver r else d

/-- One entry takes a change of its condition (R88, R89): the new value becomes its edge reference, and an enabled
IDLE entry fires at a change to true. -/
def Device.takeCondition (d : Device) (e : EntryId) : Device :=
  let en := d.trig.entries[e]
  let now := d.conditionOf en
  if now = en.edgeRef then d
  else
    let d := d.setEntry e { en with edgeRef := now }
    if now && en.enabled && decide (en.status = .idle) then d.fire e else d

/-- The entries take the changes of their conditions, in ascending entry number (R91). -/
def Device.takeConditions (d : Device) : Device := allEntries.foldl Device.takeCondition d

/-- R89 applied to one entry: an enabled IDLE LEVEL entry whose condition is true fires. -/
def Device.testLevel (d : Device) (e : EntryId) : Device :=
  let en := d.trig.entries[e]
  if en.enabled && decide (en.mode = .level) && decide (en.status = .idle) && d.conditionOf en then d.fire e else d

/-! ### Targets ended from outside (R97) -/

/-- Whether a target is WAITING or SENT. -/
def Target.open_ (t : Target) : Bool := decide (t.state = .waiting) || decide (t.state = .sent)

/-- The open targets on a station, in the order of the list, each with its entry. -/
def Device.openTargets (d : Device) (st : StationId) : List (EntryId × Target) :=
  d.trig.actions.flatMap fun r =>
    (r.targets.filter fun t => t.open_ && d.lines[t.line].onStation st).map fun t => (r.entry, t)

/-- One open target is failed: detached if SENT, its line's trigger action in flight absent. -/
def Device.failTarget (d : Device) (p : EntryId × Target) : Device :=
  let d := d.updTarget p.1 p.2.line fun t => { t with state := .failed }
  let d := if p.2.state = .sent then d.detach (.trigger p.1 p.2.line) else d
  d.clearInFlight p.2.line

/-- Every WAITING or SENT target on a station fails (R97); records with no target left are delivered. -/
def Device.failTargets (d : Device) (st : StationId) : Device :=
  ((d.openTargets st).foldl Device.failTarget d).deliverComplete

/-- Whether a line is a WAITING or SENT target of a record (R7). -/
def Device.isOpenTarget (d : Device) (i : LineId) : Bool :=
  d.trig.actions.any fun r => r.targets.any fun t => t.open_ && decide (t.line = i)

end Sys2Proof.Machine
end

