-- ==== Sys2Proof/Machine/Stations.lean ====
section
/-! DEFINITION. Station Monitor (chapter 8): change flags, valid responses, silence and drop-out, power, the ends of
PARK, UNPARK and RESET. -/

namespace Sys2Proof.Machine

/-- An occurrence has set change flags: one STATION_CHANGE is queued if at least one was clear before (R137). -/
def Device.raiseChange (d : Device) (st : StationId) (flags : ChangeFlags) : Device :=
  let newly := flags.without d.stations[st].flags
  let d := d.updStation st fun r => { r with flags := r.flags.union flags }
  let r := d.stations[st]
  if newly.any then
    d.queueEvent (.stationChange st newly r.flags r.power r.presence r.enabled r.parked r.driveFault r.resetting)
  else d

/-- Sets resync pending on every assigned line of a station (R25). -/
def Device.resyncStation (d : Device) (st : StationId) : Device := (d.linesOf st).foldl Device.setResync d

/-- Ends the station operation held for a station with an outcome. -/
def Device.endOperation (d : Device) (st : StationId) (op : StationOp) (o : OpOutcome) : Device :=
  (d.dropStation (StationItem.isOpFor st)).updStation st fun r => { r with outcome := some (op, o) }

/-! ### Valid responses (R138) -/

/-- Step 2: an ABSENT, enabled station that is ON becomes PRESENT. -/
def Device.gainPresence (d : Device) (st : StationId) : Device × ChangeFlags :=
  let r := d.stations[st]
  if r.presence = .absent ∧ r.enabled ∧ r.power = .on then
    (((d.updStation st fun r => { r with presence := .present }).resyncStation st).syncProbe st,
      { presence := true })
  else (d, {})

/-- Step 3: a reset-done flag completes a reset that is IN_PROGRESS (R148). -/
def Device.completeReset (d : Device) (st : StationId) (done : Bool) : Device × ChangeFlags :=
  if done && d.stations[st].resetting then
    let d := if (d.stationOperation st).isSome then d.endOperation st .reset .acked else d
    let d := d.updStation st fun r => { r with resetting := false }
    let d := { d with bus := { d.bus with nextAction := put d.bus.nextAction st 0 } }
    (d.resyncStation st, { reset := true })
  else (d, {})

/-- Step 4: the reported parked flag is compared with the record (R147). -/
def Device.compareParked (d : Device) (st : StationId) (parked : Bool) : Device × ChangeFlags :=
  if d.stations[st].parked = parked then (d, {})
  else ((d.updStation st fun r => { r with parked := parked }).syncProbe st, { park := true })

/-- Step 5: the drive status of the reported drum (R149). -/
def Device.storeDrive (d : Device) (st : StationId) (drum : Drum) (s : DriveStatus) : Device × ChangeFlags :=
  let before := d.stations[st].driveFault
  let d := d.updStation st fun r =>
    match drum with
    | .a => { r with driveA := s }
    | .b => { r with driveB := s }
  (d, { fault := before != d.stations[st].driveFault })

/-- The Station Monitor takes a valid response of a station (R138). -/
def Device.monitorResponse (d : Device) (st : StationId) (a : Answer) : Device :=
  let d := d.updStation st fun r => { r with missed := 0 }
  let p := d.gainPresence st
  match a with
  | .ack | .nak => p.1.raiseChange st p.2
  | .status rep =>
    let q := p.1.completeReset st rep.resetDone
    let k := q.1.compareParked st rep.parked
    let v := k.1.storeDrive st rep.drum rep.drive
    v.1.raiseChange st (((p.2.union q.2).union k.2).union v.2)

/-! ### Silence and drop-out (R139, R140) -/

/-- The posted entries of a station. -/
def PostedEntry.isFor (st : StationId) (p : PostedEntry) : Bool := decide (p.station = st)

/-- A drop-out (R140). Its STATION_CHANGE has the severity that R137 gives its newly set flags (log entry 30). -/
def Device.dropOut (d : Device) (st : StationId) : Device :=
  let wasResetting := d.stations[st].resetting
  let d := d.updStation st fun r =>
    { r with presence := .absent, enabled := false, missed := 0, resetting := false }
  let d := (d.linesOf st).foldl (fun d i => (d.putFault i .stationLost).clearInFlight i) d
  let d := d.endSlotsWhere (fun s => s.live && d.slotOnStation st s) .noResponse
  let d := d.removePosted (PostedEntry.isFor st) .stationLost
  let d := d.dropStation (StationItem.isStopFor st)
  let d := d.dropStation (StationItem.isOpFor st)
  let d := d.failTargets st
  let d := d.syncProbe st
  let d := d.raiseChange st { presence := true, enable := true, reset := wasResetting }
  { d with trig := { d.trig with stationLost := put d.trig.stationLost st true } }.takeConditions

/-- Whether one more silence makes a station drop out (R139). -/
def StationRecord.atLimit (r : StationRecord) : Bool :=
  decide (r.presence = .present) && decide (r.missedLimit ≤ min 15 (r.missed + 1))

/-- The Station Monitor takes a silence (R139). -/
def Device.monitorSilence (d : Device) (st : StationId) : Device :=
  let lost := d.stations[st].atLimit
  let d := d.updStation st fun r => { r with missed := min 15 (r.missed + 1) }
  if lost then d.dropOut st else d

/-! ### Power (R142 to R144) -/

/-- The power of a station becomes ON; the Scan Unit is told. -/
def Device.powerReady (d : Device) (st : StationId) : Device :=
  (d.updStation st fun r => { r with power := .on, powerGood := none }).syncProbe st

/-- Switches a station on (R143). -/
def Device.switchOn (d : Device) (st : StationId) : Device :=
  if d.quay.link.powerGood = 0 then d.powerReady st
  else d.updStation st fun r => { r with power := .powering, powerGood := some (d.quay.link.powerGood * 250) }

/-- Switches a station off (R144). Its lines enter FAULT in ascending line number, an order that R25 and R144 leave open
(model's choice, log entry 22). -/
def Device.switchOff (d : Device) (st : StationId) : Device :=
  let r := d.stations[st]
  let d := d.updStation st fun r => { r with power := .off, powerGood := none, presence := .absent }
  let d := (d.linesOf st).foldl (fun d i => d.putFault i .stationLost) d
  let d := d.endSlotsWhere (fun s => s.live && d.slotOnStation st s) .noResponse
  let d := d.removePosted (PostedEntry.isFor st) .powerOff
  let d := d.dropStation (StationItem.isStopFor st)
  let d := d.dropStation (StationItem.isOpFor st)
  let d := d.updStation st fun r => { r with resetting := false }
  let d := d.failTargets st
  let d := d.updStation st fun r => { r with parked := false, driveA := .ok, driveB := .ok, missed := 0 }
  let d := d.syncProbe st
  d.raiseChange st { presence := decide (r.presence = .present), reset := r.resetting, park := r.parked,
                     fault := r.driveFault }

/-- The states in which a line keeps its station's power on (R142, check 3). -/
def LineState.blocksPowerOff (s : LineState) : Bool := s.moving || s.held

/-- Whether a station fails check 3 of R142. -/
def Device.powerOffBlocked (d : Device) (st : StationId) : Bool :=
  (d.linesOf st).any fun i => d.lines[i].state.blocksPowerOff

/-- Switches one station by the table of R142. -/
def Device.switchPower (d : Device) (st : StationId) (on : Bool) : Device :=
  match d.stations[st].power, on with
  | .off, true => d.switchOn st
  | .off, false | .powering, true | .on, true => d
  | .powering, false | .on, false => d.switchOff st

/-! ### The ends of station operations (R147, R148) -/

/-- ACK to a PARK, UNPARK or RESET frame. -/
def Device.operationAcked (d : Device) (st : StationId) (op : StationOp) : Device :=
  let d := d.endOperation st op .acked
  match op with
  | .park => ((d.updStation st fun r => { r with parked := true }).syncProbe st).raiseChange st { park := true }
  | .unpark | .reset => d

/-- A PARK, UNPARK or RESET frame leaves the STATION source with its attempts spent. -/
def Device.operationNotTaken (d : Device) (st : StationId) (op : StationOp) : Device :=
  let d := d.endOperation st op .notTaken
  match op with
  | .park | .unpark => d.raiseChange st { park := true }
  | .reset => (d.updStation st fun r => { r with resetting := false }).raiseChange st { reset := true }

end Sys2Proof.Machine
end

