-- ==== Sys2Proof/Machine/Tending.lean ====
section
/-! DEFINITION. Tending Unit (chapter 3): the limit check, the decision, the list, the recheck. -/

namespace Sys2Proof.Machine

/-- The limit check (R50): whether a step passes against the last reported length. -/
def LineRecord.stepPasses (r : LineRecord) (dir : TendDirection) (step : Nat) : Bool :=
  let length := r.length.getD 0
  match dir with
  | .payout => decide (length + step ≤ r.config.maxLength)
  | .heave => decide (r.config.minLength + step ≤ length)

/-- The limit that bounds a direction (R51). -/
def LineRecord.limitOf (r : LineRecord) : TendDirection → Nat
  | .payout => r.config.maxLength
  | .heave => r.config.minLength

/-- The limit check has refused a step (R51). -/
def Device.refuseStep (d : Device) (i : LineId) (dir : TendDirection) (step : Nat) : Device :=
  let r := d.lines[i]
  if r.lengthLimit then d
  else (d.queueEvent (.lengthLimit i dir (r.length.getD 0) (r.limitOf dir) step)).updLine i
    fun r => { r with lengthLimit := true }

/-- The direction of a decision (R49). -/
def Band.direction : Band → Option TendDirection
  | .high | .alarm => some .payout
  | .slack | .low => some .heave
  | .working | .critical => none

/-- A passed step applied to the list (R53). -/
def stepPassed (l : List TendEntry) (i : LineId) (dir : TendDirection) (step : Nat) : List TendEntry :=
  if l.any fun t => decide (t.line = i) then
    l.map fun t =>
      if t.line = i ∧ ¬t.sent then
        (if t.direction = dir then { t with step := step }
         else { t with direction := dir, step := step, attempts := 0 })
      else t
  else l ++ [{ line := i, direction := dir, step := step }]

/-- A refused step, or no step, applied to the list: an UNSENT entry is removed (R53). -/
def dropUnsent (l : List TendEntry) (i : LineId) : List TendEntry :=
  l.filter fun t => !(decide (t.line = i) && !t.sent)

/-- The tend decision for a sample (R49, R53). -/
def Device.tendDecision (d : Device) (i : LineId) : Device :=
  let r := d.lines[i]
  match r.band.direction with
  | none => { d with tend := dropUnsent d.tend i }
  | some dir =>
    let step := r.config.tendStep
    if r.stepPasses dir step then { d with tend := stepPassed d.tend i dir step }
    else
      let d := d.refuseStep i dir step
      { d with tend := dropUnsent d.tend i }

/-- The UNSENT entry of a line. -/
def Device.unsentEntry (d : Device) (i : LineId) : Option TendEntry :=
  d.tend.find? fun t => decide (t.line = i) && !t.sent

/-- The recheck of an UNSENT entry (R54). A LENGTH_LIMIT it queues carries the entry's own step, which may differ from
the line's tend step of that moment (model's choice, log entry 28). -/
def Device.recheckTend (d : Device) (i : LineId) : Device :=
  match d.unsentEntry i with
  | none => d
  | some t =>
    if d.lines[i].stepPasses t.direction t.step then d
    else { d with tend := dropUnsent d.tend i }.refuseStep i t.direction t.step

/-- Changes a line's entry. -/
def Device.updTend (d : Device) (i : LineId) (f : TendEntry → TendEntry) : Device :=
  { d with tend := d.tend.map fun t => if t.line = i then f t else t }

end Sys2Proof.Machine
end

