-- ==== Sys2Proof/Machine/Tension.lean ====
section
/-! DEFINITION. Tension Evaluator (chapter 2): rail test, conversion, filter, bands, the critical fast path,
persistence, hand-over; and the placing of telemetry (R172). -/

namespace Sys2Proof.Machine

/-! ### Arithmetic of one sample -/

/-- Stage 1 (R32): the tension of a raw sample. -/
def LineConfig.tension (c : LineConfig) (raw : Nat) : Nat :=
  if raw ≤ c.zero then 0 else (raw - c.zero) * c.span / 256

/-- Stage 2 (R34): F moved towards T by the difference divided by 2^k, rounded toward zero. -/
def filterStep (shift t f : Nat) : Nat :=
  if f ≤ t then f + (t - f) / 2 ^ shift else f - (f - t) / 2 ^ shift

/-- Stage 2 (R33, R34): the new F. -/
def LineRecord.nextFiltered (r : LineRecord) (t : Nat) : Nat :=
  if r.seeded then filterStep r.config.shift t r.filtered else t

/-- Stage 3 (R36): the raw band of a value. -/
def LineConfig.rawBand (c : LineConfig) (x : Nat) : Band :=
  if x < c.slack then .slack
  else if x < c.low then .low
  else if x ≤ c.high then .working
  else if x < c.alarm then .high
  else .alarm

/-- The order of the bands (R35). -/
def Band.rank : Band → Nat
  | .slack => 0 | .low => 1 | .working => 2 | .high => 3 | .alarm => 4 | .critical => 5

/-- Stage 4 (R38): the critical run count. -/
def LineRecord.nextRun (r : LineRecord) (t : Nat) : Nat :=
  if r.config.critical ≤ t then min r.config.criticalCount (r.criticalRun + 1) else 0

/-- Stage 5 (R41): the candidate band, from F. -/
def LineRecord.candidateFor (r : LineRecord) (f : Nat) : Band :=
  let raw := r.config.rawBand f
  if r.band.rank < raw.rank then raw
  else if raw.rank < r.band.rank then
    let up := r.config.rawBand (min 65535 (f + r.config.hyst))
    if up.rank < r.band.rank then up else r.band
  else r.band

/-- Stage 5 (R42): the held candidate and persistence count after a sample's candidate. -/
def LineRecord.persist (r : LineRecord) (c : Band) : Option Band × Nat :=
  if c = r.band then (none, 0)
  else if r.candidate = some c then (some c, r.persistCount + 1)
  else (some c, 1)

/-! ### Band changes (R39, R42) -/

/-- The band changes: candidate and persistence are cleared and BAND_CHANGE queued (R39, R42, R43). -/
def Device.changeBand (d : Device) (i : LineId) (b : Band) : Device :=
  let r := d.lines[i]
  (d.updLine i fun r => { r with band := b, candidate := none, persistCount := 0 }).queueEvent
    (.bandChange i r.band b r.filtered r.tension)

/-- The Line Table takes a report that ends tending (R21). -/
def Device.endTending (d : Device) (i : LineId) : Device :=
  if d.lines[i].state = .tending then d.setState i .locked else d

/-- Entry into CRITICAL by the fast path (R39). -/
def Device.enterCritical (d : Device) (i : LineId) : Device :=
  let d := d.changeBand i .critical
  let d := d.queueEvent (.critical i d.lines[i].tension d.lines[i].config.critical)
  (d.endTending i).takeConditions

/-- Stage 5 for a sample (R40 to R42). -/
def Device.candidateStage (d : Device) (i : LineId) : Device :=
  let r := d.lines[i]
  let p := r.persist (r.candidateFor r.filtered)
  match p.1 with
  | some c =>
    if r.config.persistence ≤ p.2 then (d.changeBand i c).takeConditions
    else d.updLine i fun r => { r with candidate := some c, persistCount := p.2 }
  | none => d.updLine i fun r => { r with candidate := none, persistCount := 0 }

/-- Stages 4 and 5, with whether the sample changed the band. -/
def Device.bandStages (d : Device) (i : LineId) : Device :=
  let r := d.lines[i]
  if r.criticalRun = r.config.criticalCount ∧ r.band ≠ .critical then d.enterCritical i
  else if r.criticalRun = r.config.criticalCount ∨ (r.band = .critical ∧ r.config.critical ≤ r.tension) then
    d.updLine i fun r => { r with candidate := none, persistCount := 0 }
  else d.candidateStage i

/-! ### Telemetry (R172) -/

/-- The sample record of R44. -/
def LineRecord.sample (r : LineRecord) (i : LineId) (rep : Report) : Sample :=
  { line := i, kind := rep.kind, raw := rep.raw, tension := r.tension, filtered := r.filtered, band := r.band,
    length := rep.length, latch := rep.latch, motion := rep.motion }

/-- The Quay Port takes an offer. -/
def Device.offerSample (d : Device) (i : LineId) (rep : Report) (changed : Bool) : Device :=
  let r := d.lines[i]
  let s := r.sample i rep
  if changed then (d.updLine i fun r => { r with telemetryCount := 0 }).placeSample s
  else if r.config.divisor = 0 then d.updLine i fun r => { r with telemetryCount := 0 }
  else if r.config.divisor ≤ r.telemetryCount + 1 then
    (d.updLine i fun r => { r with telemetryCount := 0 }).placeSample s
  else d.updLine i fun r => { r with telemetryCount := r.telemetryCount + 1 }

/-! ### One sample -/

/-- Stage 6: the hand-over (R44). -/
def Device.handOver (d : Device) (i : LineId) (rep : Report) (changed : Bool) : Device :=
  let d := if changed then d.updLine i fun r => { r with lengthLimit := false } else d
  let r := d.lines[i]
  let d := if r.state = .tending ∧ r.owner = .quay ∧ d.eligible i then d.tendDecision i else d
  d.offerSample i rep changed

/-- An evaluated sample: stages 1 to 6 (R27). -/
def Device.evaluate (d : Device) (i : LineId) (rep : Report) : Device :=
  let d := d.updLine i fun r =>
    let t := r.config.tension rep.raw
    { r with tension := t, filtered := r.nextFiltered t, seeded := true, criticalRun := r.nextRun t }
  let before := d.lines[i].band
  let d := d.bandStages i
  d.handOver i rep (before != d.lines[i].band)

/-- A matching check sample (R28). -/
def matchingCheck (cable : CableCheck) (kind : SampleKind) : Bool :=
  match cable, kind with
  | .high, .checkHigh | .low, .checkLow => true
  | _, _ => false

/-- Whether a raw sample is at the rail of a cable check (R28). -/
def atRail (cable : CableCheck) (raw : Nat) : Bool :=
  match cable with
  | .high => decide (4088 ≤ raw)
  | .low => decide (raw ≤ 7)
  | .none => false

/-- The sensor mark becomes OPEN (R30). -/
def Device.openSensor (d : Device) (i : LineId) (raw : Nat) : Device :=
  let d := d.updLine i fun r => { r with sensor := .open_ }
  (d.queueEvent (.sensorOpen i d.lines[i].config.cable raw)).endTending i

/-- The sensor is restored from OPEN (R31). -/
def Device.restoreSensor (d : Device) (i : LineId) (raw : Nat) : Device :=
  (d.queueEvent (.sensorRestored i raw)).updLine i fun r => { r with sensor := .ok, seeded := false }

/-- The evaluator takes the STATUS of a line: raw sample, rail test, evaluation (R27, R29). -/
def Device.takeSample (d : Device) (i : LineId) (rep : Report) : Device :=
  let d := d.updLine i fun r => { r with lastRaw := some rep.raw }
  let r := d.lines[i]
  if matchingCheck r.config.cable rep.kind then
    if atRail r.config.cable rep.raw then
      match r.sensor with
      | .ok => d.updLine i fun r => { r with sensor := .suspect }
      | .suspect => d.openSensor i rep.raw
      | .open_ => d
    else
      match r.sensor with
      | .ok => d.evaluate i rep
      | .suspect => (d.updLine i fun r => { r with sensor := .ok }).evaluate i rep
      | .open_ => (d.restoreSensor i rep.raw).evaluate i rep
  else
    match r.sensor with
    | .ok | .suspect => d.evaluate i rep
    | .open_ => d

end Sys2Proof.Machine
end

