-- ==== Sys2Proof/Machine/LineTable.lean ====
section
/-! DEFINITION. Line Table (chapter 1): station reports (R11), reconcile (R18), the latch-jam check (R19), the loads'
effects, assignment. -/

namespace Sys2Proof.Machine

/-! ### Station reports (R11) -/

/-- Step 2: the report fields. -/
def LineRecord.store (r : LineRecord) (rep : Report) : LineRecord :=
  { r with length := some rep.length, latch := some rep.latch, brake := some rep.brake, motion := some rep.motion,
           lastAction := some (rep.action, rep.status) }

/-- The Command Bridge's compare of a STATUS with the line's AWAITING slot (R73). -/
def Device.matchSlot (d : Device) (i : LineId) (rep : Report) : Device :=
  match d.liveSlot i with
  | none => d
  | some k =>
    let s := d.bridge.slots[k]
    if s.state = .awaiting ∧ s.action = some rep.action then
      match rep.status with
      | .done => d.endSlot k .done
      | .failed => d.endSlot k .failed
      | .busy | .idle => d
    else d

/-- The compare of a STATUS with the line's trigger action in flight (R23). -/
def Device.matchTrigger (d : Device) (i : LineId) (rep : Report) : Device :=
  match d.lines[i].triggerInFlight with
  | none => d
  | some p =>
    if p.2 = rep.action then
      match rep.status with
      | .done => d.endRelease i true
      | .failed => d.endRelease i false
      | .busy | .idle => d
    else d

/-- A JAMMED latch on a line in LOCKING or RELEASING ends its live slot FAILED (R19, R73). -/
def Device.jamSlot (d : Device) (i : LineId) (latch : Latch) : Device :=
  let s := d.lines[i].state
  if latch = .jammed ∧ (s = .locking ∨ s = .releasing) then d.endLiveSlot i .failed else d

/-- A JAMMED latch on a line that was RELEASING ends its trigger-driven release as failed (R19). `wasReleasing` is the
line's state before the jam ended a live slot: where a RELEASING line has both a live slot and a trigger action in
flight, the slot's end puts it in FAULT and the trigger-driven release is ended all the same (model's choice, log entry
15). -/
def Device.jamTrigger (d : Device) (i : LineId) (latch : Latch) (wasReleasing : Bool) : Device :=
  if latch = .jammed ∧ wasReleasing then d.endRelease i false else d

/-- The state a reported latch and length give (R18); none for a MOVING or JAMMED latch. -/
def LineRecord.reconciled (r : LineRecord) (rep : Report) : Option LineState :=
  match rep.latch with
  | .closed => some .locked
  | .open_ => some (if rep.length ≤ r.config.stow + 50 then .stowed else .released)
  | .moving | .jammed => none

/-- Step 5: reconcile, for a line whose resync is pending or whose owner is LOCAL (R18). -/
def Device.reconcile (d : Device) (i : LineId) (rep : Report) : Device :=
  let r := d.lines[i]
  if r.resync ∨ r.owner = .localOwner then
    match r.reconciled rep with
    | some s => (d.setState i s).updLine i fun r => { r with cause := none, resync := false }
    | none =>
      if rep.latch = .jammed then (d.updLine i fun r => { r with resync := false }).putFault i .latchJammed else d
  else d

/-- A STATUS applied to a line: steps 2 to 6 of R11 (step 1 is the Station Monitor's, taken first by R115). The
compares of step 3 and the checks of step 4 stand in the order R73 and R19 fix; the check of R19 for the trigger-driven
release reads the state the line had before its check for the slot (both the model's reading, log entry 15). -/
def Device.lineReport (d : Device) (i : LineId) (rep : Report) : Device :=
  let d := d.updLine i fun r => r.store rep
  let d := d.recheckTend i
  let wasReleasing := decide (d.lines[i].state = .releasing)
  let d := d.jamSlot i rep.latch
  let d := d.matchSlot i rep
  let d := d.matchTrigger i rep
  let d := d.jamTrigger i rep.latch wasReleasing
  let d := d.reconcile i rep
  d.takeSample i rep

/-- A STATUS of a station reaches the Line Table: it is applied to the assigned line that holds the station and drum,
or dropped (R11). -/
def Device.stationReport (d : Device) (st : StationId) (rep : Report) : Device :=
  match d.lineAt st rep.drum with
  | some i => d.lineReport i rep
  | none => d

/-! ### Assignment (R6, R7) -/

/-- The record after ASSIGN LINE. -/
def LineRecord.assign (r : LineRecord) (b : Binding) (o : Owner) : LineRecord :=
  { config := r.config, binding := some b, state := .fault, cause := some .resync, resync := true, owner := o }

/-- The record after UNASSIGN LINE. -/
def LineRecord.unassign (r : LineRecord) : LineRecord := { config := r.config }

/-- The record after soft reset (R26). The poll count of an unassigned record becomes 0 too, every line poll count doing so
(R134). -/
def LineRecord.softReset (r : LineRecord) : LineRecord :=
  if r.assigned then
    { r with state := .fault, cause := some .resync, resync := true, owner := .quay, tension := 0, filtered := 0,
             seeded := false, band := .working, candidate := none, persistCount := 0, criticalRun := 0, sensor := .ok,
             pollCount := 0, triggerInFlight := none, lengthLimit := false, telemetryCount := 0 }
  else { r with pollCount := 0 }

end Sys2Proof.Machine
end

