-- ==== Sys2Proof/Machine/Bus.lean ====
section
/-! DEFINITION. Station Bus Controller (chapter 6): what each source offers, the scheduler's choice, a sending, a lost
arbitration, and the ends of an exchange. -/

namespace Sys2Proof.Machine

/-! ### What the sources offer -/

/-- A frame a source offers: its owner, its station (none for a broadcast), and the fields its owner fixes. The kind is
that of a POLL's sample; in every other frame the model sends NORMAL, code 0, there (model's choice, log entry 29). -/
structure Offer where
  owner : FrameOwner
  station : Option StationId
  priority : Nat
  verb : BusVerb
  drum : Drum
  kind : SampleKind := .normal
  arg : Nat := 0
  deriving DecidableEq, Repr

/-- The Station Bus verb of a trigger action's frame, and its priority (R94, R96, R109). -/
def TriggerAction.bus : TriggerAction → BusVerb × Nat
  | .release => (.release, 0)
  | .hold => (.hold, 1)
  | .slacken => (.payout, 1)
  | .stopAll | .report => (.stop, 0)

/-- Class 1: the oldest record's broadcast, or its WAITING target of lowest line number (R94). The broadcast carries drum
A, no rule giving it a drum (model's choice, log entry 29). -/
def Device.offerTrigger (d : Device) : Option Offer :=
  match d.trig.actions with
  | [] => none
  | r :: _ =>
    if r.action = .stopAll then
      some { owner := .stopAll r.entry, station := none, priority := 0, verb := .stop, drum := .a }
    else
      match r.targets.find? fun t => decide (t.state = .waiting) with
      | none => none
      | some t =>
        d.lines[t.line].binding.map fun b =>
          { owner := .trigger r.entry t.line, station := some b.station, priority := r.action.bus.2,
            verb := r.action.bus.1, drum := b.drum, arg := t.step }

/-- Class 2: the POLL of the head of the poll list, after its check (R129, R130, R132). -/
def Device.offerPoll (d : Device) : Option Offer :=
  match d.scan.pollList with
  | [] => none
  | .line i s f :: _ =>
    d.lines[i].binding.map fun b =>
      { owner := .pollLine i s f, station := some b.station, priority := 2, verb := .poll, drum := b.drum,
        kind := d.lines[i].pollKind }
  | .probe st :: _ =>
    some { owner := .probe st, station := some st, priority := 2, verb := .poll, drum := d.probeDrum st }

/-- POSTED: the head entry, when it is WAITING (R63). -/
def Device.offerPosted (d : Device) : Option Offer :=
  match d.bridge.posted with
  | [] => none
  | p :: _ =>
    if p.sent then none
    else some { owner := .posted, station := some p.station, priority := 3, verb := p.verb.bus, drum := p.drum,
                arg := p.arg }

/-- Whether a QUEUED slot is eligible: no posted entry for its station is earlier (R70). -/
def Device.slotEligible (d : Device) (s : Slot) : Bool :=
  match s.command with
  | none => false
  | some c =>
    decide (s.state = .queued) &&
      !d.bridge.posted.any fun p => d.lines[c.line].onStation p.station && decide (p.order < c.order)

/-- The slot CONFIRMED offers (R70). -/
def Device.nextSlot (d : Device) : Option SlotId :=
  match d.bridge.retries with
  | k :: _ => some k
  | [] => (d.slotsInOrder d.slotEligible).head?

/-- CONFIRMED: the offered slot's frame (R71). -/
def Device.offerConfirmed (d : Device) : Option Offer :=
  match d.nextSlot with
  | none => none
  | some k =>
    match d.bridge.slots[k].command with
    | none => none
    | some c =>
      d.lines[c.line].binding.map fun b =>
        { owner := .confirmed k, station := some b.station, priority := 3, verb := c.verb.bus, drum := b.drum,
          arg := c.sentArg }

/-- TEND: the oldest UNSENT entry (R55). -/
def Device.offerTend (d : Device) : Option Offer :=
  match d.tend.find? fun t => !t.sent with
  | none => none
  | some t =>
    d.lines[t.line].binding.map fun b =>
      { owner := .tend t.line, station := some b.station, priority := 3, verb := t.direction.bus, drum := b.drum,
        arg := t.step }

/-- STATION: the head (R111, R146, R78). -/
def Device.offerStation (d : Device) : Option Offer :=
  match d.bus.stationSource with
  | [] => none
  | x :: _ =>
    match x.frame with
    | .op o => some { owner := .station, station := some x.station, priority := 3, verb := o.bus, drum := .a }
    | .stop drum => some { owner := .station, station := some x.station, priority := 3, verb := .stop, drum := drum }

/-- The frame a class-3 source offers. -/
def Device.offerThree (d : Device) : ClassThree → Option Offer
  | .posted => d.offerPosted
  | .confirmed => d.offerConfirmed
  | .tend => d.offerTend
  | .station => d.offerStation

/-- The class-3 choice: the first source of the rotation that offers a frame (R108). -/
def Device.chooseThree (d : Device) : Option (ClassThree × Offer) :=
  d.bus.rotation.findSome? fun c => (d.offerThree c).map fun o => (c, o)

/-! ### A sending -/

/-- Changes slot `k`. -/
def Device.updSlot (d : Device) (k : SlotId) (f : Slot → Slot) : Device := d.setSlot k (f d.bridge.slots[k])

/-- Changes the head of the posted queue. -/
def Device.updPosted (d : Device) (f : PostedEntry → PostedEntry) : Device :=
  match d.bridge.posted with
  | [] => d
  | p :: ps => { d with bridge := { d.bridge with posted := f p :: ps } }

/-- Changes the head of the STATION source. -/
def Device.updStationHead (d : Device) (f : StationItem → StationItem) : Device :=
  match d.bus.stationSource with
  | [] => d
  | x :: xs => { d with bus := { d.bus with stationSource := f x :: xs } }

/-- Removes the head of the poll list. -/
def Device.popPoll (d : Device) : Device :=
  { d with scan := { d.scan with pollList := d.scan.pollList.tail } }

/-- A member is polled: IN_FLIGHT, and one more POLL sent (R126). -/
def Device.memberSent (d : Device) (i : LineId) : Device :=
  d.updSweep fun w => { w.setMember i .inFlight with sent := w.sent + 1 }

/-- The owner takes the sending of its frame with an action number (R55, R63, R71, R94, R96, R111, R129, R130). -/
def Device.ownerSent (d : Device) (o : Offer) (a : ActionNo) : Device :=
  match o.owner with
  | .trigger e i =>
    let d := d.updTarget e i fun t => { t with state := .sent, attempts := t.attempts + 1 }
    if o.verb = .release then
      let d := d.updLine i fun r => { r with triggerInFlight := some (e, a) }
      let d := { d with trig := { d.trig with releaseTimers := put d.trig.releaseTimers i none } }
      d.syncFollowUp i
    else d
  | .stopAll _ => d
  | .pollLine i s _ =>
    let d := d.popPoll.updLine i fun r => { r with pollCount := (r.pollCount + 1) % 8 }
    if s then d.memberSent i else d
  | .probe _ => d.popPoll
  | .posted => d.updPosted fun p => { p with sent := true, attempts := p.attempts + 1 }
  | .confirmed k =>
    let d := d.updSlot k fun s => { s with state := .issued, action := some a, attempts := s.attempts + 1 }
    { d with bridge := { d.bridge with retries := d.bridge.retries.erase k } }
  | .tend i => d.updTend i fun t => { t with sent := true, attempts := t.attempts + 1 }
  | .station => d.updStationHead fun x => { x with attempts := x.attempts + 1 }

/-- The rotation after a class-3 sending of a source (R108). -/
def rotate (l : List ClassThree) (c : ClassThree) : List ClassThree := l.filter (fun x => decide (x ≠ c)) ++ [c]

/-- The values a lost arbitration gives back (R113). -/
def Device.undoFor (d : Device) (o : Offer) : Undo :=
  { rotation := d.bus.rotation
    pollRun := d.bus.pollRun
    nextAction := match o.station with | some st => d.bus.nextAction[st] | none => 0
    slotAction := match o.owner with | .confirmed k => d.bridge.slots[k].action | _ => none
    inFlight := match o.owner with | .trigger _ i => d.lines[i].triggerInFlight | _ => none
    releaseTimer := match o.owner with | .trigger _ i => d.trig.releaseTimers[i] | _ => none
    pollCount := match o.owner with | .pollLine i _ _ => d.lines[i].pollCount | _ => 0 }

/-- The action number a frame carries: the station's next for a command frame, 0 for a POLL or a broadcast (R110). -/
def Device.actionFor (d : Device) (o : Offer) : ActionNo :=
  match o.station with
  | some st => if o.verb = .poll then 0 else d.bus.nextAction[st]
  | none => 0

/-- The frame assembled from an offer (R109). -/
def Offer.frame (o : Offer) (a : ActionNo) : BusFrame :=
  { priority := o.priority, dest := match o.station with | some st => number st | none => 31, verb := o.verb,
    drum := o.drum, kind := o.kind, action := a, arg := o.arg }

/-- The station's next action number after a sending: increased by one, 15 wrapping to 0, for a command frame to one
station (R110). -/
def Device.takeAction (d : Device) (o : Offer) : Device :=
  match o.station with
  | some st =>
    if o.verb = .poll then d
    else { d with bus := { d.bus with nextAction := put d.bus.nextAction st (d.bus.nextAction[st] + 1) } }
  | none => d

/-- The engine starts a sending (R112): the owner takes it, the action number is used, the engine is SENDING. -/
def Device.send (d : Device) (o : Offer) : Device :=
  let a := d.actionFor o
  let x : Exchange := { owner := o.owner, frame := o.frame a, station := o.station, undo := d.undoFor o }
  let d := (d.ownerSent o a).takeAction o
  { d with bus := { d.bus with engine := .sending, exchange := some x } }

/-- A class-2 sending: the poll-run count rises, saturating at 4 (R107). -/
def Device.sendPoll (d : Device) (o : Offer) : Device :=
  let d := d.send o
  { d with bus := { d.bus with pollRun := min 4 (d.bus.pollRun + 1) } }

/-- A class-3 sending: the poll-run count becomes 0 and the source moves to the last place (R107, R108). -/
def Device.sendThree (d : Device) (p : ClassThree × Offer) : Device :=
  let d := d.send p.2
  { d with bus := { d.bus with pollRun := 0, rotation := rotate d.bus.rotation p.1 } }

/-! ### The scheduler's choice (R106 to R108) -/

/-- The bus is free when the engine is IDLE and the observer QUIET (section 6.1). -/
def Bus.isFree (b : Bus) : Bool := decide (b.engine = .idle) && decide (b.observer = .quiet)

/-- Steps 3 and 4 of R107. -/
def Device.choosePollOrThree (d : Device) : Device :=
  let d := Device.pruneHead 64 d
  match d.offerPoll with
  | some o => d.sendPoll o
  | none =>
    match d.chooseThree with
    | some p => d.sendThree p
    | none => d

/-- Steps 1 to 4 of R107, on a free bus. -/
def Device.chooseFree (d : Device) : Device :=
  match d.offerTrigger with
  | some o => d.send o
  | none =>
    if d.bus.pollRun = 4 then
      match d.chooseThree with
      | some p => d.sendThree p
      | none => d.choosePollOrThree
    else d.choosePollOrThree

/-- The scheduler's choice: nothing happens while the bus is not free (R106, R120). -/
def Device.choose (d : Device) : Device := if d.bus.isFree then d.chooseFree else d

/-- The end of the work of one command: the scheduler chooses if the bus is free (log entry 7), and ALM stands as R101
gives it. -/
def Device.settle (d : Device) : Device := d.choose.reformAlm

/-! ### Loss of arbitration (R113) -/

/-- The owner's item is as it was before the choice. Three cases that the rules leave open (model's choices, log entry 16):
a tend entry returns UNSENT by R55 as it was sent, with no recheck, also when LOAD LIMITS came while it was SENT, a moment
R54 does not name; a slot on its first attempt returns to QUEUED (R71) also on a line that a takeover has made LOCAL
meanwhile, which R79 says holds no QUEUED slot; a line's poll count returns (R129) also to a record unassigned or assigned
anew meanwhile, which R6 and R7 start at 0. -/
def Device.ownerUnsent (d : Device) (x : Exchange) : Device :=
  match x.owner with
  | .trigger e i =>
    let d := d.updTarget e i fun t => { t with state := .waiting, attempts := t.attempts - 1 }
    if x.frame.verb = .release then
      let d := d.updLine i fun r => { r with triggerInFlight := x.undo.inFlight }
      let d := { d with trig := { d.trig with releaseTimers := put d.trig.releaseTimers i x.undo.releaseTimer } }
      d.syncFollowUp i
    else d
  | .stopAll _ => d
  | .pollLine i s f =>
    let d := { d with scan := { d.scan with pollList := returnEntry d.scan.pollList (.line i s f) } }
    let d := d.updLine i fun r => { r with pollCount := x.undo.pollCount }
    if s then d.updSweep fun w => { w.setMember i .outstanding with sent := w.sent - 1 } else d
  | .probe st => { d with scan := { d.scan with pollList := returnEntry d.scan.pollList (.probe st) } }
  | .posted => d.updPosted fun p => { p with sent := false, attempts := p.attempts - 1 }
  | .confirmed k =>
    let first := decide (d.bridge.slots[k].attempts ≤ 1)
    let d := d.updSlot k fun s =>
      { s with state := if first then .queued else .issued, action := x.undo.slotAction, attempts := s.attempts - 1 }
    if first then d else { d with bridge := { d.bridge with retries := k :: d.bridge.retries } }
  | .tend i => d.updTend i fun t => { t with sent := false, attempts := t.attempts - 1 }
  | .station => d.updStationHead fun x => { x with attempts := x.attempts - 1 }

/-- The engine returns to IDLE with no exchange in flight. -/
def Device.engineIdle (d : Device) : Device :=
  { d with bus := { d.bus with engine := .idle, exchange := none, window := none, response := none } }

/-- The part has lost arbitration: the chosen frame is treated as not sent. -/
def Device.loseArbitration (d : Device) (x : Exchange) : Device :=
  let d := d.engineIdle
  let d := if x.detached then d else d.ownerUnsent x
  let next := match x.station with
    | some st => put d.bus.nextAction st x.undo.nextAction
    | none => d.bus.nextAction
  { d with bus := { d.bus with nextAction := next, rotation := x.undo.rotation, pollRun := x.undo.pollRun } }

/-! ### The ends of an exchange (R114, R115) -/

/-- The three answers that a command frame's owner sees. -/
inductive CommandEnd where
  | ack | nak | silence
  deriving DecidableEq, Repr

/-- The last answer an end records. -/
def CommandEnd.lastAnswer : CommandEnd → LastAnswer
  | .nak => .nak
  | .ack | .silence => .silence

/-- The end of a target's exchange (R95). Where the last attempt of a RELEASE completes its record, the release is ended
(LINE_FAULT) before the record is delivered (TRIGGER_DELIVERED): R95 and R98 leave the order open (model's choice, log entry
22). -/
def Device.triggerEnd (d : Device) (e : EntryId) (i : LineId) (r : CommandEnd) : Device :=
  match d.targetOf e i with
  | none => d
  | some t =>
    let release := decide (d.trig.entries[e].action = .release)
    match r with
    | .ack =>
      let d := d.updTarget e i fun t => { t with state := .succeeded }
      let d :=
        if release && d.lines[i].triggerInFlight.isSome then
          { d with trig := { d.trig with
              releaseTimers := put d.trig.releaseTimers i (some (d.lines[i].config.releaseTime * 100)) } }
        else d
      d.deliverComplete
    | .nak | .silence =>
      if t.attempts < d.quay.link.retry then d.updTarget e i fun t => { t with state := .waiting }
      else
        let d := d.updTarget e i fun t => { t with state := .failed }
        let d := if release then d.endRelease i false else d
        d.deliverComplete

/-- Removes the head of the posted queue. -/
def Device.popPosted (d : Device) : Device :=
  { d with bridge := { d.bridge with posted := d.bridge.posted.tail } }

/-- The end of the posted head's exchange (R64). -/
def Device.postedEnd (d : Device) (r : CommandEnd) : Device :=
  match d.bridge.posted with
  | [] => d
  | p :: _ =>
    match r with
    | .ack => d.popPosted
    | .nak | .silence =>
      if p.attempts < d.quay.link.retry then d.updPosted fun p => { p with sent := false }
      else d.popPosted.queueEvent (p.undelivered (if r = .nak then .nak else .noResponse))

/-- The time of a confirmed verb's action, in milliseconds (R72). -/
def LineConfig.actionTime (c : LineConfig) : ConfirmedVerb → Nat
  | .runOut => c.runOutTime * 1000
  | .rewind => c.rewindTime * 1000
  | .lock => c.lockTime * 100
  | .release => c.releaseTime * 100

/-- The end of a slot's exchange (R72). -/
def Device.confirmedEnd (d : Device) (k : SlotId) (r : CommandEnd) : Device :=
  let s := d.bridge.slots[k]
  match s.command with
  | none => d
  | some c =>
    match r with
    | .ack =>
      let time := d.lines[c.line].config.actionTime c.verb
      (d.setSlot k { s with state := .awaiting, actionTimer := some time, lastAnswer := none }).syncFollowUp c.line
    | .nak | .silence =>
      if s.attempts < d.quay.link.retry then
        let d := d.setSlot k { s with lastAnswer := some r.lastAnswer }
        { d with bridge := { d.bridge with retries := d.bridge.retries ++ [k] } }
      else
        d.endSlot k (if r = .nak then .refused else .noResponse)

/-- The end of a tend entry's exchange (R56). -/
def Device.tendEnd (d : Device) (i : LineId) (r : CommandEnd) : Device :=
  match d.tend.find? fun t => decide (t.line = i) with
  | none => d
  | some t =>
    let without := { d with tend := d.tend.filter fun t => decide (t.line ≠ i) }
    match r with
    | .ack => without
    | .nak | .silence =>
      if t.attempts < d.quay.link.retry then (d.updTend i fun t => { t with sent := false }).recheckTend i
      else without.queueEvent (.tendUndelivered i t.direction t.step t.attempts r.lastAnswer)

/-- The end of the STATION head's exchange (R78, R111, R147, R148). -/
def Device.stationEnd (d : Device) (r : CommandEnd) : Device :=
  match d.bus.stationSource with
  | [] => d
  | x :: xs =>
    match r with
    | .ack =>
      match x.frame with
      | .stop _ => { d with bus := { d.bus with stationSource := xs } }
      | .op o => d.operationAcked x.station o
    | .nak | .silence =>
      if x.attempts < d.quay.link.retry then d
      else
        match x.frame with
        | .stop _ => { d with bus := { d.bus with stationSource := xs } }
        | .op o => d.operationNotTaken x.station o

/-- The owner of a command frame takes its end. -/
def Device.commandEnd (d : Device) (o : FrameOwner) (r : CommandEnd) : Device :=
  match o with
  | .trigger e i => d.triggerEnd e i r
  | .posted => d.postedEnd r
  | .confirmed k => d.confirmedEnd k r
  | .tend i => d.tendEnd i r
  | .station => d.stationEnd r
  | .stopAll _ | .pollLine .. | .probe _ => d

/-- The Scan Unit takes the end of a line POLL (R131). -/
def Device.pollEnd (d : Device) (o : FrameOwner) (received : Bool) : Device :=
  match o with
  | .pollLine i true _ => d.memberDone i received
  | _ => d

/-- The owner takes a valid response (R115). -/
def Device.ownerTakes (d : Device) (x : Exchange) (st : StationId) (a : Answer) : Device :=
  if x.detached then d
  else
    match a with
    | .ack => (d.commandEnd x.owner .ack).pollEnd x.owner false
    | .nak => (d.commandEnd x.owner .nak).pollEnd x.owner false
    | .status rep => (d.stationReport st rep).pollEnd x.owner true

/-- The owner takes a silence. When the same silence brings the station to its drop-out, the drop-out ends the owner's
item and the attempt is not taken (R58, R65, R72, R95, R147). -/
def Device.ownerSilence (d : Device) (x : Exchange) (lost : Bool) : Device :=
  if x.detached then d
  else if lost then d.pollEnd x.owner false
  else (d.commandEnd x.owner .silence).pollEnd x.owner false

/-- A single-station exchange ends in silence, taken by the owner and the Station Monitor in either order (R115). -/
def Device.endSilent (d : Device) (x : Exchange) (st : StationId) (order : SilenceOrder) : Device :=
  let lost := d.stations[st].atLimit
  match order with
  | .ownerFirst => (d.ownerSilence x lost).monitorSilence st
  | .monitorFirst => (d.monitorSilence st).ownerSilence x lost

/-- A single-station exchange ends with an answer or in silence. -/
def Device.endExchange (d : Device) (x : Exchange) (st : StationId) (a : Option Answer) (order : SilenceOrder) :
    Device :=
  let d := d.engineIdle
  match a with
  | some a => (d.monitorResponse st a).ownerTakes x st a
  | none => d.endSilent x st order

/-- A broadcast has been sent: every target of the record takes the outcome succeeded, and the record is delivered
(R96, R98, R118). -/
def Device.endBroadcast (d : Device) (x : Exchange) : Device :=
  let d := d.engineIdle
  match x.owner with
  | .stopAll e =>
    match d.trig.actions.find? fun r => decide (r.entry = e) with
    | some r => d.deliver { r with targets := r.targets.map fun t => { t with state := .succeeded } }
    | none => d
  | _ => d

end Sys2Proof.Machine
end

