-- ==== Sys2Proof/Machine/Local.lean ====
section
/-! DEFINITION. Local Control (chapter 9): takeover, broadcast STOP, return, HAND BACK. -/

namespace Sys2Proof.Machine

/-- The hold time in milliseconds (R151). -/
def LinkSettings.holdMs (l : LinkSettings) : Nat := l.hold * 10000

/-- Starts or restarts a station's local hold timer. -/
def Device.startHold (d : Device) (st : StationId) : Device :=
  { d with hold := put d.hold st (some d.quay.link.holdMs) }

/-- The Line Table takes the takeover of a line: its owner becomes LOCAL and a TENDING line moves to LOCKED (R24). -/
def Device.takeLine (d : Device) (i : LineId) : Device :=
  (d.updLine i fun r => { r with owner := .localOwner }).endTending i

/-- A takeover of a station, seen by the pendant's verb (R152). -/
def Device.takeover (d : Device) (st : StationId) (verb : Byte) : Device :=
  let fresh := d.hold[st].isNone
  let lines := d.linesOf st
  let d := d.startHold st
  let d := lines.foldl Device.takeLine d
  let d := d.endSlotsWhere (fun s => decide (s.state = .queued) && d.slotOnStation st s) .preempted
  if fresh then d.queueEvent (.localTaken (some st) (setOf lines) verb) else d

/-- A pendant broadcast STOP (R153). Its LOCAL_TAKEN names every assigned line, also those that were LOCAL before (model's
choice, log entry 31). -/
def Device.broadcastStop (d : Device) : Device :=
  let fresh := all16.any fun st => d.hold[st].isNone
  let lines := d.assignedLines
  let d := all16.foldl Device.startHold d
  let d := lines.foldl Device.takeLine d
  let d := d.endSlotsWhere Slot.live .preempted
  if fresh then d.queueEvent (.localTaken none (setOf lines) (codeBusVerb .stop)) else d

/-- The Line Table takes the return of a line; a line already QUAY keeps everything (R24). -/
def Device.returnLine (d : Device) (i : LineId) : Device :=
  if d.lines[i].owner = .localOwner then d.updLine i fun r => { r with owner := .quay, resync := true } else d

/-- A station is returned (R154, R155). -/
def Device.returnStation (d : Device) (st : StationId) (cause : ReturnCause) : Device :=
  let lines := d.linesOf st
  let d := { d with hold := put d.hold st none }
  (lines.foldl Device.returnLine d).queueEvent (.localReturned st cause (setOf lines))

/-- A HAND BACK (R155): a station whose timer is stopped is not touched. -/
def Device.handBackStation (d : Device) (st : StationId) : Device :=
  if d.hold[st].isSome then d.returnStation st .handBack else d

/-- A HAND BACK with its argument (R155). -/
def Device.handBack (d : Device) (arg : Word16) : Device :=
  if arg.toNat = 31 then all16.foldl Device.handBackStation d
  else if h : 1 ≤ arg.toNat ∧ arg.toNat ≤ 16 then d.handBackStation ⟨arg.toNat - 1, by omega⟩
  else d

end Sys2Proof.Machine
end

