-- ==== Sys2Proof/Machine/Requests.lean ====
section
/-! DEFINITION. The host's requests: the fields of every LINE COMMAND and MANAGEMENT operation (R159, R165), their
frames, and the reading of a frame's payload. -/

namespace Sys2Proof.Machine

/-- The nine line verbs (R159). -/
inductive LineVerb where
  | runOut | lock | release | rewind | tendOn | tendOff | hold | heave | payout
  deriving DecidableEq, Repr

/-- The verb codes of a LINE COMMAND (R159). -/
def codeLineVerb : LineVerb → Byte
  | .runOut => 0x01 | .lock => 0x02 | .release => 0x03 | .rewind => 0x04 | .tendOn => 0x05 | .tendOff => 0x06
  | .hold => 0x07 | .heave => 0x08 | .payout => 0x09

/-- A verb from its code. -/
def lineVerbOfCode (b : Byte) : Option LineVerb :=
  match b.toNat with
  | 1 => some .runOut
  | 2 => some .lock
  | 3 => some .release
  | 4 => some .rewind
  | 5 => some .tendOn
  | 6 => some .tendOff
  | 7 => some .hold
  | 8 => some .heave
  | 9 => some .payout
  | _ => none

/-- A request: what the payload of a host frame asks for. -/
inductive Request where
  | line (verb : LineVerb) (line : Byte) (arg : Word16)
  /-- A LINE COMMAND payload of a wrong length or with an undefined verb (R60). -/
  | badLine (payload : List Byte)
  /-- A MANAGEMENT frame with an empty payload (R165). -/
  | emptyManagement
  /-- A code outside the table of R165. -/
  | unknown (code : Byte) (fields : List Byte)
  /-- A code of the table with fields of a wrong length (R165). -/
  | wrongLength (code : Byte) (fields : List Byte)
  | assignLine (line station drum group : Byte)
  | unassignLine (line : Byte)
  | loadEnvelope (line : Byte) (slack low high alarm critical hyst persist count : Word16)
  | loadCalibration (line : Byte) (zero span shift : Word16) (cable : Byte)
  | loadLimits (line : Byte) (stow min max step runOut rewind lock release divisor : Word16)
  | readLine (line : Byte)
  | clearFault (line : Byte)
  | abortLine (line : Byte)
  | loadTrigger (entry source param enabled mode polarity action targetMode : Byte) (target : Word16)
  | readTrigger (entry : Byte)
  | triggerAck (entry : Byte)
  | fireTrigger (entry : Byte)
  | setScan (mode target : Byte) (scanSet prioritySet : LineSet) (interval : Word16)
  | readScan
  | stationConfig (station mask : Byte) (limit : Word16)
  | stationPower (station onOff : Byte)
  | globalPower (onOff : Byte)
  | enableStation (station : Byte)
  | park (station : Byte)
  | unpark (station : Byte)
  | stationReset (station : Byte)
  | ackStationChanges (station flags : Byte)
  | setLink (silence discard hold window retry powerGood : Word16)
  | readStatus (part : Byte)
  | softReset
  deriving DecidableEq, Repr

/-- The kind of the frame that carries a request. -/
def Request.kind : Request → HostKind
  | .line .. | .badLine _ => .lineCommand
  | _ => .management

/-- Words as bytes, each high byte first. -/
def wordsBytes (ws : List Word16) : List Byte := ws.flatMap wordBytes

/-- The payload that carries a request (R159, R165). -/
def Request.payload : Request → List Byte
  | .line v l a => [l, codeLineVerb v] ++ wordBytes a
  | .badLine p => p
  | .emptyManagement => []
  | .unknown c fs => c :: fs
  | .wrongLength c fs => c :: fs
  | .assignLine l s d g => [0x01, l, s, d, g]
  | .unassignLine l => [0x02, l]
  | .loadEnvelope l s lo hi a c h p n => [0x03, l] ++ wordsBytes [s, lo, hi, a, c, h, p, n]
  | .loadCalibration l z s k c => [0x04, l] ++ wordsBytes [z, s, k] ++ [c]
  | .loadLimits l st mn mx ts ro rw lk rl dv => [0x05, l] ++ wordsBytes [st, mn, mx, ts, ro, rw, lk, rl, dv]
  | .readLine l => [0x06, l]
  | .clearFault l => [0x07, l]
  | .abortLine l => [0x08, l]
  | .loadTrigger e s p en m po a tm t => [0x10, e, s, p, en, m, po, a, tm] ++ wordBytes t
  | .readTrigger e => [0x11, e]
  | .triggerAck e => [0x12, e]
  | .fireTrigger e => [0x13, e]
  | .setScan m t ss ps iv => [0x18, m, t] ++ wordsBytes [ss, ps, iv]
  | .readScan => [0x19]
  | .stationConfig s m l => [0x20, s, m] ++ wordBytes l
  | .stationPower s o => [0x21, s, o]
  | .globalPower o => [0x22, o]
  | .enableStation s => [0x23, s]
  | .park s => [0x24, s]
  | .unpark s => [0x25, s]
  | .stationReset s => [0x26, s]
  | .ackStationChanges s f => [0x27, s, f]
  | .setLink a b c d e f => 0x30 :: wordsBytes [a, b, c, d, e, f]
  | .readStatus p => [0x31, p]
  | .softReset => [0x3F]

/-- The frame that carries a request. -/
def Request.frame (tag : Byte) (r : Request) : HostFrame := { kind := r.kind, tag := tag, payload := r.payload }

/-- Reads a LINE COMMAND payload (R60). -/
def readLineCommand (p : List Byte) : Request :=
  match p with
  | [l, v, hi, lo] =>
    match lineVerbOfCode v with
    | some verb => .line verb l (word16 hi lo)
    | none => .badLine p
  | _ => .badLine p

/-- Reads the fields of an operation; none where the code is not in the table of R165 or the fields have a wrong
length. -/
def readFields (code : Nat) (fs : List Byte) : Option Request :=
  match code, fs with
  | 0x01, [l, s, d, g] => some (.assignLine l s d g)
  | 0x02, [l] => some (.unassignLine l)
  | 0x03, [l, a1, a0, b1, b0, c1, c0, d1, d0, e1, e0, f1, f0, g1, g0, h1, h0] =>
    some (.loadEnvelope l (word16 a1 a0) (word16 b1 b0) (word16 c1 c0) (word16 d1 d0) (word16 e1 e0) (word16 f1 f0)
      (word16 g1 g0) (word16 h1 h0))
  | 0x04, [l, a1, a0, b1, b0, c1, c0, k] =>
    some (.loadCalibration l (word16 a1 a0) (word16 b1 b0) (word16 c1 c0) k)
  | 0x05, [l, a1, a0, b1, b0, c1, c0, d1, d0, e1, e0, f1, f0, g1, g0, h1, h0, i1, i0] =>
    some (.loadLimits l (word16 a1 a0) (word16 b1 b0) (word16 c1 c0) (word16 d1 d0) (word16 e1 e0) (word16 f1 f0)
      (word16 g1 g0) (word16 h1 h0) (word16 i1 i0))
  | 0x06, [l] => some (.readLine l)
  | 0x07, [l] => some (.clearFault l)
  | 0x08, [l] => some (.abortLine l)
  | 0x10, [e, s, p, en, m, po, a, tm, t1, t0] => some (.loadTrigger e s p en m po a tm (word16 t1 t0))
  | 0x11, [e] => some (.readTrigger e)
  | 0x12, [e] => some (.triggerAck e)
  | 0x13, [e] => some (.fireTrigger e)
  | 0x18, [m, t, s1, s0, p1, p0, i1, i0] => some (.setScan m t (word16 s1 s0) (word16 p1 p0) (word16 i1 i0))
  | 0x19, [] => some .readScan
  | 0x20, [s, m, l1, l0] => some (.stationConfig s m (word16 l1 l0))
  | 0x21, [s, o] => some (.stationPower s o)
  | 0x22, [o] => some (.globalPower o)
  | 0x23, [s] => some (.enableStation s)
  | 0x24, [s] => some (.park s)
  | 0x25, [s] => some (.unpark s)
  | 0x26, [s] => some (.stationReset s)
  | 0x27, [s, f] => some (.ackStationChanges s f)
  | 0x30, [a1, a0, b1, b0, c1, c0, d1, d0, e1, e0, f1, f0] =>
    some (.setLink (word16 a1 a0) (word16 b1 b0) (word16 c1 c0) (word16 d1 d0) (word16 e1 e0) (word16 f1 f0))
  | 0x31, [p] => some (.readStatus p)
  | 0x3F, [] => some .softReset
  | _, _ => none

/-- The operation codes of the table of R165. -/
def operationCodes : List Nat :=
  [0x01, 0x02, 0x03, 0x04, 0x05, 0x06, 0x07, 0x08, 0x10, 0x11, 0x12, 0x13, 0x18, 0x19, 0x20, 0x21, 0x22, 0x23, 0x24,
    0x25, 0x26, 0x27, 0x30, 0x31, 0x3F]

/-- Reads a MANAGEMENT payload, in the order of R165. -/
def readManagement (p : List Byte) : Request :=
  match p with
  | [] => .emptyManagement
  | c :: fs =>
    if c.toNat ∈ operationCodes then (readFields c.toNat fs).getD (.wrongLength c fs) else .unknown c fs

/-- What a host frame asks for. -/
def HostFrame.request (f : HostFrame) : Request :=
  match f.kind with
  | .lineCommand => readLineCommand f.payload
  | .management => readManagement f.payload

/-- The request's verb or operation code (R166); none where the payload carries none. -/
def Request.code (r : Request) : Option Byte :=
  match r with
  | .line v _ _ => some (codeLineVerb v)
  | .badLine p => p[1]?
  | _ => r.payload.head?

end Sys2Proof.Machine
end

