-- ==== Sys2Proof/Machine/LineCommands.lean ====
section
/-! DEFINITION. Line commands (chapter 4, R46, R47): TEND ON and TEND OFF, posted commands, confirmed commands. -/

namespace Sys2Proof.Machine

/-- What a processed request leaves: the part, and the status and data of its REPLY (R166). -/
structure Result where
  dev : Device
  status : ReplyStatus
  data : List Byte := []
  deriving DecidableEq, Repr

/-- A refusal: nothing changes. -/
def refuse (d : Device) (s : ReplyStatus) : Result := { dev := d, status := s }

/-- An acceptance with no data. -/
def accept (d : Device) : Result := { dev := d, status := .ok }

/-- The first check that fails gives the reply; none where every check passes. -/
def firstFailure (checks : List (Bool × ReplyStatus)) : Option ReplyStatus :=
  checks.findSome? fun c => if c.1 then none else some c.2

/-- The checks that open every line command's list: assigned, owner QUAY, station available. -/
def Device.commonChecks (d : Device) (i : LineId) : List (Bool × ReplyStatus) :=
  [(d.lines[i].assigned, .notAssigned), (decide (d.lines[i].owner = .quay), .localControl),
    (d.eligible i, .stationUnavailable)]

/-! ### TEND ON and TEND OFF -/

/-- Whether TEND ON is taken in the line's state (R12, R46 check 6). -/
def LineRecord.tendable (r : LineRecord) : Bool :=
  decide (r.state = .locked) && decide (r.band ≠ .critical) && decide (r.sensor ≠ .open_)

/-- TEND ON (R46). -/
def Device.tendOn (d : Device) (i : LineId) : Result :=
  match firstFailure (d.commonChecks i ++ [((d.liveSlot i).isNone, .lineBusy), (d.lines[i].tendable, .badState)]) with
  | some s => refuse d s
  | none => accept ((d.setState i .tending).updLine i fun r => { r with lengthLimit := false })

/-- TEND OFF (R47). -/
def Device.tendOff (d : Device) (i : LineId) : Result :=
  match firstFailure [(d.lines[i].assigned, .notAssigned), (decide (d.lines[i].owner = .quay), .localControl),
      (decide (d.lines[i].state = .tending), .badState)] with
  | some s => refuse d s
  | none => accept (d.setState i .locked)

/-! ### Posted commands (R61, R62) -/

/-- The states in which a posted verb is taken (R12). -/
def PostedVerb.takenIn : PostedVerb → LineState → Bool
  | .hold, s => s.held
  | .heave, s | .payout, s => decide (s = .locked)

/-- The argument as applied: 0 for HOLD, at least 1 for HEAVE and PAYOUT (R61). -/
def PostedVerb.argument : PostedVerb → Word16 → Nat
  | .hold, _ => 0
  | .heave, a | .payout, a => max 1 a.toNat

/-- The checks of R61. -/
def Device.postedChecks (d : Device) (i : LineId) (v : PostedVerb) : List (Bool × ReplyStatus) :=
  d.commonChecks i ++ [(v.takenIn d.lines[i].state, .badState), (decide (d.bridge.posted.length < 8), .full)]

/-- Enters an accepted posted command at the tail (R62). -/
def Device.enterPosted (d : Device) (i : LineId) (b : Binding) (v : PostedVerb) (arg : Nat) : Device :=
  let p : PostedEntry :=
    { line := i, station := b.station, drum := b.drum, verb := v, arg := arg, order := d.bridge.nextOrder }
  { d with bridge := { d.bridge with posted := d.bridge.posted ++ [p], nextOrder := d.bridge.nextOrder + 1 } }

/-- A posted command (R61, R17). -/
def Device.post (d : Device) (i : LineId) (v : PostedVerb) (a : Word16) : Result :=
  match firstFailure (d.postedChecks i v), d.lines[i].binding with
  | some s, _ => refuse d s
  | none, none => refuse d .notAssigned
  | none, some b =>
    let arg := v.argument a
    let d := d.enterPosted i b v arg
    let d := if v = .hold then d.endTending i else d
    if v ≠ .hold ∧ a.toNat = 0 then { dev := d, status := .clamped, data := byte2 arg } else accept d

/-! ### Confirmed commands (R67 to R69) -/

/-- The states in which a confirmed verb is taken (R12). -/
def ConfirmedVerb.takenIn : ConfirmedVerb → LineState → Bool
  | .runOut, s => decide (s = .stowed) || decide (s = .released)
  | .lock, s | .rewind, s => decide (s = .ready) || decide (s = .released)
  | .release, s => s.held

/-- The argument the station frame carries (R69). -/
def LineConfig.sentArgument (c : LineConfig) : ConfirmedVerb → Word16 → Nat
  | .runOut, a => min a.toNat c.maxLength
  | .rewind, _ => c.stow
  | .lock, _ | .release, _ => 0

/-- Whether a slot in use holds the request (R67). -/
def Slot.holds (s : Slot) (i : LineId) (v : ConfirmedVerb) (tag : Byte) (a : Word16) : Bool :=
  match s.command with
  | some c => decide (c.line = i ∧ c.verb = v ∧ c.tag = tag ∧ c.requested = a)
  | none => false

/-- The slot in use that a request matches (R67). -/
def Device.matchingSlot (d : Device) (i : LineId) (v : ConfirmedVerb) (tag : Byte) (a : Word16) : Option SlotId :=
  allSlots.find? fun k => d.bridge.slots[k].holds i v tag a

/-- The FREE slot of lowest number (R68). -/
def Device.freeSlot (d : Device) : Option SlotId := allSlots.find? fun k => decide (d.bridge.slots[k].state = .free)

/-- The data of WAIT: the slot state and the attempt count (R166). -/
def Slot.waitData (s : Slot) : List Byte := codeSlotState s.state :: byte1 s.attempts

/-- The data of RESULT: the result, the action number or 255, the attempt count (R166). -/
def Slot.resultData (s : Slot) : List Byte :=
  (s.result.map codeResult).toList ++ byte1 (match s.action with | some a => a.val | none => 255) ++ byte1 s.attempts

/-- The answer to a request that matches slot `k` (R67). -/
def Device.collect (d : Device) (k : SlotId) : Result :=
  let s := d.bridge.slots[k]
  if s.live then { dev := d, status := .wait, data := s.waitData }
  else { dev := d.setSlot k {}, status := .result, data := s.resultData }

/-- The checks of R68. -/
def Device.confirmedChecks (d : Device) (i : LineId) (v : ConfirmedVerb) : List (Bool × ReplyStatus) :=
  d.commonChecks i ++ [((d.liveSlot i).isNone, .lineBusy), (v.takenIn d.lines[i].state, .badState),
    (d.freeSlot.isSome, .full)]

/-- Fills slot `k` with an accepted command and moves the line to the verb's transitional state (R68, R12). -/
def Device.fillSlot (d : Device) (k : SlotId) (i : LineId) (v : ConfirmedVerb) (tag : Byte) (a : Word16) : Device :=
  let c : SlotCommand :=
    { line := i, verb := v, tag := tag, requested := a, sentArg := d.lines[i].config.sentArgument v a,
      prior := d.lines[i].state, order := d.bridge.nextOrder }
  let d := d.setSlot k { state := .queued, command := some c }
  let d := { d with bridge := { d.bridge with nextOrder := d.bridge.nextOrder + 1 } }
  d.setState i v.transitional

/-- A confirmed command (R67, R68, R69). -/
def Device.confirm (d : Device) (i : LineId) (v : ConfirmedVerb) (tag : Byte) (a : Word16) : Result :=
  match d.matchingSlot i v tag a with
  | some k => d.collect k
  | none =>
    match firstFailure (d.confirmedChecks i v), d.freeSlot with
    | some s, _ => refuse d s
    | none, none => refuse d .full
    | none, some k =>
      let sent := d.lines[i].config.sentArgument v a
      let d' := d.fillSlot k i v tag a
      if v = .runOut ∧ d.lines[i].config.maxLength < a.toNat then
        { dev := d', status := .clamped, data := byte2 sent }
      else { dev := d', status := .wait, data := d'.bridge.slots[k].waitData }

/-! ### Dispatch by class (R60) -/

/-- A LINE COMMAND of a defined verb. -/
def Device.lineCommand (d : Device) (v : LineVerb) (line : Byte) (tag : Byte) (a : Word16) : Result :=
  match id16 line with
  | none => refuse d .badArgument
  | some i =>
    match v with
    | .runOut => d.confirm i .runOut tag a
    | .lock => d.confirm i .lock tag a
    | .release => d.confirm i .release tag a
    | .rewind => d.confirm i .rewind tag a
    | .tendOn => d.tendOn i
    | .tendOff => d.tendOff i
    | .hold => d.post i .hold a
    | .heave => d.post i .heave a
    | .payout => d.post i .payout a

end Sys2Proof.Machine
end

