-- ==== Sys2Proof/Machine/Reads.lean ====
section
/-! DEFINITION. The data of READ LINE, READ TRIGGER, READ SCAN and READ STATUS (R1, R83, R122, R166, R168). Where the
rules leave a layout or a width to R159's encodings, log entries 10 to 14 say what is taken. -/

namespace Sys2Proof.Machine

/-! ### READ LINE (R166) -/

/-- The first table of section 1.1. -/
def LineRecord.configData (r : LineRecord) : List Byte :=
  let c := r.config
  [codeYes r.assigned] ++ optBytes 1 (r.binding.map fun b => [idByte b.station])
    ++ optBytes 1 (r.binding.map fun b => [codeDrum b.drum])
    ++ optBytes 1 (r.binding.map fun b => byte1 b.group.val)
    ++ [c.slack, c.low, c.high, c.alarm, c.critical, c.hyst, c.persistence, c.criticalCount, c.zero, c.span,
        c.shift].flatMap byte2
    ++ [codeCable c.cable]
    ++ [c.stow, c.minLength, c.maxLength, c.tendStep, c.runOutTime, c.rewindTime, c.lockTime, c.releaseTime,
        c.divisor].flatMap byte2

/-- The second table of section 1.1. -/
def LineRecord.dynamicData (r : LineRecord) : List Byte :=
  [codeLineState r.state, codeOwner r.owner, codeYes r.resync] ++ optBytes 1 (r.cause.map fun c => [codeCause c])
    ++ optBytes 2 (r.lastRaw.map byte2) ++ byte2 r.tension ++ byte2 r.filtered
    ++ [codeYes r.seeded, codeBand r.band] ++ optBytes 1 (r.candidate.map fun b => [codeBand b])
    ++ byte1 r.persistCount ++ byte1 r.criticalRun ++ [codeSensor r.sensor] ++ byte1 r.pollCount
    ++ optBytes 2 (r.length.map byte2) ++ optBytes 1 (r.latch.map fun x => [codeLatch x])
    ++ optBytes 1 (r.brake.map fun x => [codeBrake x]) ++ optBytes 1 (r.motion.map fun x => [codeMotion x])
    ++ optBytes 2 (r.lastAction.map fun x => byte1 x.1.val ++ [codeActionStatus x.2])
    ++ optBytes 2 (r.triggerInFlight.map fun x => byte1 x.1.val ++ byte1 x.2.val)
    ++ [codeMark r.lengthLimit] ++ byte1 r.telemetryCount

/-- The READ LINE data. -/
def LineRecord.data (r : LineRecord) : List Byte := r.configData ++ r.dynamicData

/-! ### READ TRIGGER (R83) -/

/-- Every field of an entry, and the present value of its condition. -/
def TriggerEntry.data (en : TriggerEntry) (present : Bool) : List Byte :=
  codeSource en.source ++ [codeYes en.enabled, codeMode en.mode, codePolarity en.polarity, codeAction en.action,
      codeTargetMode en.target]
    ++ optBytes 2 (if en.target = .sourceLine then none else some (targetBytes en.target))
    ++ [codeDelivery en.status, codeTruth en.edgeRef] ++ byte1 en.succeeded ++ byte1 en.failed ++ [codeTruth present]

/-! ### READ SCAN (R122) -/

/-- A configuration in the layout of SET SCAN. -/
def ScanConfig.data (c : ScanConfig) : List Byte :=
  [codeScanMode c.mode, idByte c.target] ++ wordBytes c.scanSet ++ wordBytes c.prioritySet ++ byte2 c.interval

/-- A sweep: the count of members, each member, and the two counts. -/
def Sweep.data (w : Sweep) : List Byte :=
  byte1 w.members.length ++ (w.members.flatMap fun p => [idByte p.1, codeMember p.2]) ++ byte1 w.sent
    ++ byte1 w.received

/-- Three bytes for an entry of the poll list. -/
def PollEntry.data : PollEntry → List Byte
  | .line i s f => [0, idByte i, (if s then 1 else 0) ||| (if f then 2 else 0)]
  | .probe st => [1, idByte st, 0]

/-- The READ SCAN data. -/
def ScanUnit.data (u : ScanUnit) : List Byte :=
  u.config.data ++ optBytes 8 (u.pending.map ScanConfig.data)
    ++ (match u.sweep with | none => [0, 0, 0, 0] | some w => 1 :: w.data)
    ++ [codeYes u.sweepDue, idByte u.pointer] ++ byte1 u.pollList.length ++ u.pollList.flatMap PollEntry.data

/-! ### READ STATUS (R168) -/

/-- The six link settings in the layout of SET LINK. -/
def LinkSettings.data (l : LinkSettings) : List Byte :=
  [l.silence, l.discard, l.hold, l.window, l.retry, l.powerGood].flatMap byte2

/-- Part 0. -/
def Device.statusData (d : Device) : List Byte :=
  d.quay.link.data ++ [codeTruth d.quay.hostSilent] ++ byte2 (secondsLeft d.quay.silenceTimer)
    ++ [codeLevel (if d.trig.alm then .high else .low)]
    ++ (allInputs.map fun n => codeLevel d.trig.inputs[n].debounced)
    ++ byte1 d.quay.events.length ++ [codeMark d.quay.overrun] ++ byte1 d.bridge.posted.length
    ++ byte1 (allSlots.countP fun k => decide (d.bridge.slots[k].state ≠ .free)) ++ byte1 d.trig.actions.length

/-- The record of a station. -/
def Device.stationData (d : Device) (st : StationId) : List Byte :=
  let r := d.stations[st]
  [codePower r.power, codeMask r.mask, codePresence r.presence, codeYes r.enabled, codeYes r.parked,
      codeDrive r.driveA, codeDrive r.driveB, codeYes r.driveFault, codeResetting r.resetting]
    ++ optBytes 2 ((d.stationOperation st).map fun p => codeOp p.1 :: byte1 p.2)
    ++ optBytes 2 (r.outcome.map fun p => [codeOp p.1, codeOutcome p.2])
    ++ byte1 r.missed ++ byte2 r.missedLimit ++ [r.flags.byte] ++ byte2 (secondsLeft d.hold[st])

/-- Parts 1 and 2: the records of stations 1 to 8 and 9 to 16. -/
def Device.stationsData (d : Device) (sts : List StationId) : List Byte := sts.flatMap d.stationData

end Sys2Proof.Machine
end

