-- ==== Sys2Proof/Machine/Management.lean ====
section
/-! DEFINITION. Management operations on lines and settings: the loads (R2 to R5), assignment (R6, R7), CLEAR FAULT
(R20), ABORT LINE (R77), SET SCAN (R123), SET LINK (R167), the reads. -/

namespace Sys2Proof.Machine

/-- An operation applied with its clamped values: CLAMPED with its fields as applied in the request's layout where a
value was changed, OK otherwise (R2, R165, R166). -/
def applied (d : Device) (changed : Bool) (data : List Byte) : Result :=
  if changed then { dev := d, status := .clamped, data := data } else accept d

/-- Whether clamping changed a value: the value as applied and the value given. -/
def changedValue (p : Nat × Word16) : Bool := decide (p.1 ≠ p.2.toNat)

/-! ### The three loads -/

/-- LOAD ENVELOPE's values as applied (R3). -/
def LineConfig.loadEnvelope (c : LineConfig) (s l h a cr hy p n : Word16) : LineConfig :=
  { c with slack := s.toNat, low := l.toNat, high := h.toNat, alarm := a.toNat, critical := cr.toNat,
           hyst := clamp 0 4095 hy.toNat, persistence := clamp 1 15 p.toNat, criticalCount := clamp 1 4 n.toNat }

/-- LOAD ENVELOPE (R3). -/
def Device.loadEnvelope (d : Device) (line : Byte) (s l h a cr hy p n : Word16) : Result :=
  match id16 line with
  | none => refuse d .badArgument
  | some i =>
    if s.toNat < l.toNat ∧ l.toNat < h.toNat ∧ h.toNat < a.toNat ∧ a.toNat < cr.toNat then
      let c := d.lines[i].config.loadEnvelope s l h a cr hy p n
      applied (d.updLine i fun r => { r with config := c, candidate := none, persistCount := 0 })
        ([(c.hyst, hy), (c.persistence, p), (c.criticalCount, n)].any changedValue)
        (line :: wordsBytes [s, l, h, a, cr] ++ [c.hyst, c.persistence, c.criticalCount].flatMap byte2)
    else refuse d .badArgument

/-- LOAD CALIBRATION's values as applied (R4). -/
def LineConfig.loadCalibration (c : LineConfig) (z s k : Word16) (cable : CableCheck) : LineConfig :=
  { c with zero := clamp 0 4095 z.toNat, span := clamp 1 4095 s.toNat, shift := clamp 0 4 k.toNat, cable := cable }

/-- LOAD CALIBRATION's effect on the sensor mark (R4). The raw sample of its SENSOR_RESTORED is a free value
(log entry 9). -/
def Device.calibrateSensor (d : Device) (i : LineId) (held loaded : CableCheck) : Device :=
  if held ≠ loaded ∨ loaded = .none then
    let was := d.lines[i].sensor
    let d := d.updLine i fun r => { r with sensor := .ok }
    if was = .open_ then
      { d.queueEvent (.sensorRestored i (Config.loadRestoredRaw d.freeCount).toNat) with freeCount := d.freeCount + 1 }
    else d
  else d

/-- LOAD CALIBRATION (R4). -/
def Device.loadCalibration (d : Device) (line : Byte) (z s k : Word16) (cable : Byte) : Result :=
  match id16 line, cableOfCode cable with
  | none, _ => refuse d .badArgument
  | some _, none => refuse d .badArgument
  | some i, some cc =>
    let held := d.lines[i].config.cable
    let c := d.lines[i].config.loadCalibration z s k cc
    let d := d.updLine i fun r => { r with config := c, seeded := false }
    applied (d.calibrateSensor i held cc) ([(c.zero, z), (c.span, s), (c.shift, k)].any changedValue)
      (line :: [c.zero, c.span, c.shift].flatMap byte2 ++ [cable])

/-- LOAD LIMITS's values as applied (R5). -/
def LineConfig.loadLimits (c : LineConfig) (st mn mx ts ro rw lk rl dv : Word16) : LineConfig :=
  { c with stow := st.toNat, minLength := mn.toNat, maxLength := mx.toNat, tendStep := clamp 1 255 ts.toNat,
           runOutTime := clamp 1 255 ro.toNat, rewindTime := clamp 1 255 rw.toNat, lockTime := clamp 1 255 lk.toNat,
           releaseTime := clamp 1 255 rl.toNat, divisor := clamp 0 255 dv.toNat }

/-- LOAD LIMITS (R5); the line's UNSENT tend entry is rechecked (R54). -/
def Device.loadLimits (d : Device) (line : Byte) (st mn mx ts ro rw lk rl dv : Word16) : Result :=
  match id16 line with
  | none => refuse d .badArgument
  | some i =>
    if mn.toNat ≤ mx.toNat then
      let c := d.lines[i].config.loadLimits st mn mx ts ro rw lk rl dv
      let d := d.updLine i fun r => { r with config := c, lengthLimit := false, telemetryCount := 0 }
      applied (d.recheckTend i)
        ([(c.tendStep, ts), (c.runOutTime, ro), (c.rewindTime, rw), (c.lockTime, lk), (c.releaseTime, rl),
          (c.divisor, dv)].any changedValue)
        (line :: wordsBytes [st, mn, mx]
          ++ [c.tendStep, c.runOutTime, c.rewindTime, c.lockTime, c.releaseTime, c.divisor].flatMap byte2)
    else refuse d .badArgument

/-! ### Assignment -/

/-- ASSIGN LINE (R6). -/
def Device.assignLine (d : Device) (line station drum group : Byte) : Result :=
  match id16 line with
  | none => refuse d .badArgument
  | some i =>
    if d.lines[i].state ≠ .unassigned then refuse d .badState
    else
      match id16 station, drumOfCode drum, idBelow 4 group with
      | some st, some dr, some g =>
        if (d.lineAt st dr).isSome then refuse d .badArgument
        else
          let owner := if d.hold[st].isSome then Owner.localOwner else .quay
          accept (d.updLine i fun r => r.assign { station := st, drum := dr, group := g } owner).takeConditions
      | _, _, _ => refuse d .badArgument

/-- Clears the fresh mark of a line's telemetry slot (R7). -/
def Device.clearFresh (d : Device) (i : LineId) : Device :=
  { d with quay := { d.quay with telemetry := put d.quay.telemetry i { d.quay.telemetry[i] with fresh := false } } }

/-- UNASSIGN LINE (R7). -/
def Device.unassignLine (d : Device) (line : Byte) : Result :=
  match id16 line with
  | none => refuse d .badArgument
  | some i =>
    if ¬d.lines[i].state.safe then refuse d .badState
    else if (d.liveSlot i).isSome ∨ d.lines[i].triggerInFlight.isSome ∨ d.isOpenTarget i then refuse d .badState
    else
      let d := d.updLine i LineRecord.unassign
      let d := d.removePosted (fun p => decide (p.line = i)) .unassigned
      accept (d.clearFresh i).takeConditions

/-! ### CLEAR FAULT and ABORT LINE -/

/-- CLEAR FAULT (R20). -/
def Device.clearFault (d : Device) (line : Byte) : Result :=
  match id16 line with
  | none => refuse d .badArgument
  | some i => if d.lines[i].state = .fault then accept (d.setResync i) else refuse d .badState

/-- ABORT LINE (R77, R78). -/
def Device.abortLine (d : Device) (line : Byte) : Result :=
  match id16 line with
  | none => refuse d .badArgument
  | some i =>
    match d.liveSlot i with
    | none => refuse d .badState
    | some k =>
      let sent := decide (d.bridge.slots[k].state ≠ .queued)
      let d := d.endSlot k .aborted
      match d.lines[i].binding with
      | some b => accept (if sent then d.placeStop b.station b.drum else d)
      | none => accept d

/-! ### SET SCAN and SET LINK -/

/-- SET SCAN (R123). -/
def Device.setScan (d : Device) (mode target : Byte) (ss ps : LineSet) (iv : Word16) : Result :=
  match scanModeOfCode mode, id16 target with
  | none, _ => refuse d .badArgument
  | some _, none => refuse d .badArgument
  | some m, some t =>
    if m = .single ∧ d.scan.config.mode = .single ∧ d.scan.sweep.isSome then refuse d .scanBusy
    else
      let c : ScanConfig := { mode := m, target := t, scanSet := ss, prioritySet := ps,
                              interval := clamp 1 255 iv.toNat }
      let d := if d.scan.config.mode = .off ∧ d.scan.sweep.isNone then d.applyConfig c
        else { d with scan := { d.scan with pending := some c } }
      applied d (changedValue (c.interval, iv)) c.data

/-- The settings of SET LINK, each clamped to its range (R167). -/
def linkOf (si di ho wi re pg : Word16) : LinkSettings :=
  { silence := clamp 0 60 si.toNat, discard := clamp 1 60 di.toNat, hold := clamp 1 60 ho.toNat,
    window := clamp 1 15 wi.toNat, retry := clamp 1 8 re.toNat, powerGood := clamp 0 3 pg.toNat }

/-- The silence timer as it restarts: at the silence time in milliseconds, or stopped when the silence time is 0
(R167, R174, R175). -/
def LinkSettings.silenceStart (l : LinkSettings) : Timer := if l.silence = 0 then none else some (l.silence * 1000)

/-- SET LINK (R167). -/
def Device.setLink (d : Device) (si di ho wi re pg : Word16) : Result :=
  let l := linkOf si di ho wi re pg
  applied { d with quay := { d.quay with link := l, silenceTimer := l.silenceStart } }
    ([(l.silence, si), (l.discard, di), (l.hold, ho), (l.window, wi), (l.retry, re), (l.powerGood, pg)].any changedValue)
    l.data

/-! ### The reads -/

/-- READ LINE (R1). -/
def Device.readLine (d : Device) (line : Byte) : Result :=
  match id16 line with
  | none => refuse d .badArgument
  | some i => { dev := d, status := .ok, data := d.lines[i].data }

/-- READ TRIGGER (R83). -/
def Device.readTrigger (d : Device) (entry : Byte) : Result :=
  match idBelow 12 entry with
  | none => refuse d .badArgument
  | some e => { dev := d, status := .ok, data := d.trig.entries[e].data (d.conditionOf d.trig.entries[e]) }

/-- READ SCAN (R122). -/
def Device.readScan (d : Device) : Result := { dev := d, status := .ok, data := d.scan.data }

/-- READ STATUS (R168). -/
def Device.readStatus (d : Device) (part : Byte) : Result :=
  if part = 0 then { dev := d, status := .ok, data := d.statusData }
  else if part = 1 then { dev := d, status := .ok, data := d.stationsData [0, 1, 2, 3, 4, 5, 6, 7] }
  else if part = 2 then { dev := d, status := .ok, data := d.stationsData [8, 9, 10, 11, 12, 13, 14, 15] }
  else refuse d .badArgument

/-! ### Trigger operations -/

/-- LOAD TRIGGER's configuration from its fields, by checks 2 to 4 of R84; none where one fails. -/
def entryOf (source param enabled mode polarity action targetMode : Byte) (target : Word16) : Option TriggerEntry :=
  match sourceOfCode source param, yesOfCode enabled, modeOfCode mode, polarityOfCode polarity, actionOfCode action,
      targetOfCode targetMode target with
  | some s, some en, some m, some p, some a, some t =>
    let critical : Bool := match s with | .lineCritical _ => true | _ => false
    if t = .sourceLine ∧ critical = false then none
    else some { source := s, enabled := en, mode := m, polarity := p, action := a, target := t }
  | _, _, _, _, _, _ => none

/-- LOAD TRIGGER (R84). -/
def Device.loadTrigger (d : Device) (entry source param enabled mode polarity action targetMode : Byte)
    (target : Word16) : Result :=
  match idBelow 12 entry, entryOf source param enabled mode polarity action targetMode target with
  | none, _ => refuse d .badArgument
  | some _, none => refuse d .badArgument
  | some e, some en =>
    if d.trig.entries[e].status = .pending then refuse d .badState
    else accept ((d.setEntry e { en with edgeRef := d.conditionOf en }).reformAlm.testLevel e)

/-- TRIGGER ACK (R99). -/
def Device.triggerAck (d : Device) (entry : Byte) : Result :=
  match idBelow 12 entry with
  | none => refuse d .badArgument
  | some e =>
    let en := d.trig.entries[e]
    if en.status = .awaitingAck then accept ((d.setEntry e { en with status := .idle }).reformAlm.testLevel e)
    else refuse d .badState

/-- FIRE TRIGGER (R90). -/
def Device.fireTrigger (d : Device) (entry : Byte) : Result :=
  match idBelow 12 entry with
  | none => refuse d .badArgument
  | some e =>
    let en := d.trig.entries[e]
    if en.source ≠ .software then refuse d .badArgument
    else if ¬en.enabled ∨ en.status = .pending then refuse d .badState
    else accept (d.fire e)

/-! ### Station operations -/

/-- STATION CONFIG (R136). -/
def Device.stationConfig (d : Device) (station mask : Byte) (limit : Word16) : Result :=
  match id16 station, maskOfCode mask with
  | none, _ => refuse d .badArgument
  | some _, none => refuse d .badArgument
  | some st, some m =>
    let n := clamp 1 15 limit.toNat
    applied (d.updStation st fun r => { r with mask := m, missedLimit := n }) (changedValue (n, limit))
      ([station, mask] ++ byte2 n)

/-- STATION POWER (R142). -/
def Device.stationPower (d : Device) (station onOff : Byte) : Result :=
  match id16 station, onOfCode onOff with
  | none, _ => refuse d .badArgument
  | some _, none => refuse d .badArgument
  | some st, some on =>
    if d.stations[st].mask = .global then refuse d .badArgument
    else if !on && d.powerOffBlocked st then refuse d .stationBusy
    else accept (d.switchPower st on)

/-- The stations that GLOBAL POWER switches: those whose mask is GLOBAL. -/
def Device.globalStations (d : Device) : List StationId :=
  all16.filter fun st => decide (d.stations[st].mask = .global)

/-- The lowest station that keeps GLOBAL POWER off from switching (R142). -/
def Device.globalBlocked (d : Device) : Option StationId :=
  d.globalStations.find? fun st => decide (d.stations[st].power ≠ .off) && d.powerOffBlocked st

/-- GLOBAL POWER (R142); the stations are switched in ascending number (log entry 22). -/
def Device.globalPower (d : Device) (onOff : Byte) : Result :=
  match onOfCode onOff with
  | none => refuse d .badArgument
  | some on =>
    match (if on then none else d.globalBlocked) with
    | some st => { dev := d, status := .stationBusy, data := [idByte st] }
    | none => accept (d.globalStations.foldl (fun d st => d.switchPower st on) d)

/-- ENABLE STATION (R141). -/
def Device.enableStation (d : Device) (station : Byte) : Result :=
  match id16 station with
  | none => refuse d .badArgument
  | some st =>
    if d.stations[st].enabled then accept d
    else
      let d := d.updStation st fun r => { r with enabled := true, missed := 0 }
      let d := d.raiseChange st { enable := true }
      let d := { d with trig := { d.trig with stationLost := put d.trig.stationLost st false } }.takeConditions
      accept (d.syncProbe st)

/-- Whether a station is PRESENT, enabled and ON (R146, check 2). -/
def StationRecord.inService (r : StationRecord) : Bool :=
  decide (r.presence = .present) && r.enabled && decide (r.power = .on)

/-- Whether any line of a station has a live slot. -/
def Device.stationHasSlot (d : Device) (st : StationId) : Bool :=
  allSlots.any fun k => d.bridge.slots[k].live && d.slotOnStation st d.bridge.slots[k]

/-- Whether a station has work that refuses PARK (R146, check 4). -/
def Device.parkBlocked (d : Device) (st : StationId) : Bool :=
  d.bridge.posted.any (PostedEntry.isFor st) || d.stationHasSlot st
    || d.tend.any (fun t => d.lines[t.line].onStation st)
    || (d.linesOf st).any fun i => d.lines[i].state.moving

/-- PARK and UNPARK (R146). Check 4 comes before the PARK of a station already parked is answered OK (model's choice, log
entry 33). -/
def Device.parkOperation (d : Device) (station : Byte) (park : Bool) : Result :=
  match id16 station with
  | none => refuse d .badArgument
  | some st =>
    let r := d.stations[st]
    match firstFailure [(r.inService, .stationUnavailable),
        ((d.stationOperation st).isNone && !r.resetting, .stationBusy),
        (!(park && d.parkBlocked st), .stationBusy)] with
    | some s => refuse d s
    | none =>
      if r.parked = park then accept d
      else accept (d.placeStation st (.op (if park then .park else .unpark)))

/-- STATION RESET (R148). -/
def Device.stationReset (d : Device) (station : Byte) : Result :=
  match id16 station with
  | none => refuse d .badArgument
  | some st =>
    let r := d.stations[st]
    match firstFailure [(r.enabled && decide (r.power = .on), .stationUnavailable),
        ((d.stationOperation st).isNone && !r.resetting && !d.stationHasSlot st, .stationBusy)] with
    | some s => refuse d s
    | none => accept ((d.updStation st fun r => { r with resetting := true }).placeStation st (.op .reset))

/-- ACK STATION CHANGES (R137). -/
def Device.ackStationChanges (d : Device) (station flags : Byte) : Result :=
  match id16 station with
  | none => refuse d .badArgument
  | some st => accept (d.updStation st fun r => { r with flags := r.flags.without (ChangeFlags.ofByte flags) })

/-- SOFT RESET (R175): the reset awaits its reply. -/
def Device.softResetRequest (d : Device) : Result :=
  accept { d with quay := { d.quay with resetAwaiting := true } }

end Sys2Proof.Machine
end

