-- ==== Sys2Proof/Machine/Receive.lean ====
section
/-! DEFINITION. Quay Port, receive side (sections 10.2, 10.3, 10.5): carrying out a request, the receive buffer, the
receiver, the silence monitor. -/

namespace Sys2Proof.Machine

/-! ### Carrying out a request (R60, R165) -/

/-- What a request does to the part, and its status and data. -/
def Device.perform (d : Device) (tag : Byte) (r : Request) : Result :=
  match r with
  | .line v l a => d.lineCommand v l tag a
  | .badLine _ | .emptyManagement | .wrongLength .. => refuse d .badArgument
  | .unknown .. => refuse d .unknownOperation
  | .assignLine l s dr g => d.assignLine l s dr g
  | .unassignLine l => d.unassignLine l
  | .loadEnvelope l s lo hi a c h p n => d.loadEnvelope l s lo hi a c h p n
  | .loadCalibration l z s k c => d.loadCalibration l z s k c
  | .loadLimits l st mn mx ts ro rw lk rl dv => d.loadLimits l st mn mx ts ro rw lk rl dv
  | .readLine l => d.readLine l
  | .clearFault l => d.clearFault l
  | .abortLine l => d.abortLine l
  | .loadTrigger e s p en m po a tm t => d.loadTrigger e s p en m po a tm t
  | .readTrigger e => d.readTrigger e
  | .triggerAck e => d.triggerAck e
  | .fireTrigger e => d.fireTrigger e
  | .setScan m t ss ps iv => d.setScan m t ss ps iv
  | .readScan => d.readScan
  | .stationConfig s m l => d.stationConfig s m l
  | .stationPower s o => d.stationPower s o
  | .globalPower o => d.globalPower o
  | .enableStation s => d.enableStation s
  | .park s => d.parkOperation s true
  | .unpark s => d.parkOperation s false
  | .stationReset s => d.stationReset s
  | .ackStationChanges s f => d.ackStationChanges s f
  | .setLink a b c e f g => d.setLink a b c e f g
  | .readStatus p => d.readStatus p
  | .softReset => d.softResetRequest

/-- The REPLY of a result, with the third byte `code` (R166). -/
def Result.reply (res : Result) (tag : Byte) (kind : HostKind) (code : Byte) : Reply :=
  { tag := tag, status := res.status, kind := kind, code := code, data := res.data }

/-- Processing one request (R164): its work, and exactly one REPLY at the tail of the reply queue; then the scheduler
takes a free bus. Where the request carries no code, the third byte is a free value (log entry 9). -/
def Device.run (d : Device) (tag : Byte) (r : Request) : Device :=
  let res := d.perform tag r
  match r.code with
  | some c => (res.dev.pushReply (res.reply tag r.kind c)).settle
  | none =>
    let d := res.dev.pushReply (res.reply tag r.kind (Config.absentCode res.dev.freeCount))
    { d with freeCount := d.freeCount + 1 }.settle

/-! ### Silence monitor (R174, R87) -/

/-- A valid host frame is complete: the timer restarts at the silence time, or stays stopped at a silence time of 0, and
HOST_SILENT is false from then on, whatever the silence time (R87); the trigger entries take a change of it. -/
def Device.hostHeard (d : Device) : Device :=
  let d' := { d with quay := { d.quay with silenceTimer := d.quay.link.silenceStart, hostSilent := false } }
  if d.quay.hostSilent then d'.takeConditions else d'

/-- The silence timer expires: HOST_SILENT becomes true and its event is queued, and then the trigger entries take the
change (the event before the entries' own: log entry 32). -/
def Device.hostSilence (d : Device) : Device :=
  if d.quay.silenceTimer.isNone then d
  else
    let d := { d with quay := { d.quay with silenceTimer := none, hostSilent := true } }
    (d.queueEvent (.hostSilent d.quay.link.silence)).takeConditions

/-! ### The receive buffer (R164) -/

/-- The Quay Port processes while the reply queue has a free place and no reset awaits its reply. -/
def QuayPort.canProcess (q : QuayPort) : Bool := decide (q.replies.length < 4) && !q.resetAwaiting

/-- A valid host frame is taken in. -/
def Device.takeIn (d : Device) (f : HostFrame) : Device :=
  if 4 ≤ d.quay.replies.length ∨ 4 ≤ d.quay.rxBuffer.length then d
  else { d with quay := { d.quay with rxBuffer := d.quay.rxBuffer ++ [f] } }

/-- Processes the frames of a receive buffer, oldest first, while the Quay Port may. -/
def Device.drainList : List HostFrame → Device → Device
  | [], d => d
  | f :: fs, d =>
    if d.quay.canProcess then
      Device.drainList fs ({ d with quay := { d.quay with rxBuffer := fs } }.run f.tag f.request)
    else d

/-- Processes what the receive buffer holds. -/
def Device.drain (d : Device) : Device := Device.drainList d.quay.rxBuffer d

/-- A request of the host reaches the Quay Port in a valid frame (log entry 4): the silence monitor takes the frame; the
request is processed at once where nothing waits before it and the Quay Port may process, else taken in by R164. -/
def Device.serve (tag : Byte) (r : Request) (d : Device) : Device :=
  let d := d.hostHeard
  if d.quay.rxBuffer.isEmpty && d.quay.canProcess then d.run tag r
  else (d.takeIn (r.frame tag)).drain.settle

/-! ### The receiver (R163) -/

/-- Changes the receiver. -/
def Device.setReceiver (d : Device) (r : Receiver) : Device := { d with quay := { d.quay with receiver := r } }

/-- The number of characters of the frame that characters begin, once the third has come. -/
def frameLength (cs : List Byte) : Option Nat := cs[2]?.map fun n => 5 + n.toNat

/-- A complete frame is checked; a valid one goes to the silence monitor, is taken in, and is processed as soon as the
Quay Port may. -/
def Device.frameComplete (d : Device) (cs : List Byte) : Device :=
  match HostFrame.read cs with
  | some f => (((d.setReceiver .idle).hostHeard).takeIn f).drain
  | none => d.setReceiver .discarding

/-- The characters of a frame so far, the last one just received. -/
def Device.framing (d : Device) (cs : List Byte) : Device :=
  match frameLength cs with
  | none => d.setReceiver (.receiving cs)
  | some n =>
    if 245 < n then d.setReceiver .discarding
    else if cs.length = n then d.frameComplete cs
    else d.setReceiver (.receiving cs)

/-- The receiver takes one character. -/
def Device.receiveChar (d : Device) (c : Byte) : Device :=
  match d.quay.receiver with
  | .discarding => d
  | .idle => d.framing [c]
  | .receiving cs => d.framing (cs ++ [c])

/-- The receiver takes characters, one after another. -/
def Device.receive (d : Device) (cs : List Byte) : Device := cs.foldl Device.receiveChar d

/-- The Quay Link goes quiet: a frame not complete is discarded, and the receiver is IDLE. -/
def Device.receiverQuiet (d : Device) : Device := d.setReceiver .idle

end Sys2Proof.Machine
end

