-- ==== Sys2Proof/Machine/Reset.lean ====
section
/-! DEFINITION. Soft reset (R175 and the rules it names), power-on reset, and the end of an up-link frame (R169). -/

namespace Sys2Proof.Machine

/-- Every place of a table of sixteen changed. -/
def mapAll {α : Type} (v : Vector α 16) (f : α → α) : Vector α 16 := all16.foldl (fun v i => put v i (f v[i])) v

/-- The debouncer as a reset leaves it: the present level, the timer stopped (R86). -/
def TriggerInput.restart (x : TriggerInput) : TriggerInput := { pin := x.pin, debounced := x.pin }

/-- The trigger entries as soft reset leaves them, before their edge references are taken (R102). -/
def TriggerUnit.softReset (u : TriggerUnit) : TriggerUnit :=
  { u with
    entries := allEntries.foldl (fun v e => put v e { v[e] with status := .idle }) u.entries
    actions := []
    releaseTimers := Vector.replicate 16 none
    inputs := allInputs.foldl (fun v n => put v n v[n].restart) u.inputs
    alm := false }

/-- The Scan Unit after soft reset, but for its probe timers (R134). -/
def ScanUnit.softReset (u : ScanUnit) : ScanUnit :=
  { u with
    pollList := [], sweep := none, sweepDue := false, followUp := Vector.replicate 16 none
    intervalTimer := if u.config.mode = .off then none else some (u.config.interval * 10) }

/-- The Station Bus Controller after soft reset (R121). -/
def Bus.softReset (b : Bus) : Bus := { nextAction := b.nextAction }

/-- A station record after soft reset (R150). -/
def StationRecord.softReset (r : StationRecord) : StationRecord :=
  { r with missed := 0, flags := {}, resetting := false }

/-- The Quay Port after soft reset (R175). -/
def QuayPort.softReset (q : QuayPort) : QuayPort := { link := q.link, silenceTimer := q.link.silenceStart }

/-- Every block's own soft reset, with the edge references taken from the conditions as they then stand (R102). -/
def Device.softResetBlocks (d : Device) : Device :=
  let d : Device :=
    { d with
      quay := d.quay.softReset
      lines := mapAll d.lines LineRecord.softReset
      tend := []
      bridge := {}
      trig := d.trig.softReset
      scan := d.scan.softReset
      bus := d.bus.softReset
      stations := mapAll d.stations StationRecord.softReset
      hold := Vector.replicate 16 none }
  let d := all16.foldl (fun d st => d.setProbe st (if d.stations[st].probeDue then some 1000 else none)) d
  allEntries.foldl (fun d e => d.setEntry e { d.trig.entries[e] with edgeRef := d.conditionOf d.trig.entries[e] }) d

/-- Soft reset takes effect: every block resets, then R89 is applied to each entry in ascending number (R102). -/
def Device.softReset (d : Device) : Device := allEntries.foldl Device.testLevel d.softResetBlocks

/-- Whether the frame being sent up-link is the reply to the SOFT RESET that awaits it: replies leave in order and no
frame is processed after SOFT RESET, so it is the reply with none behind it (R175). -/
def QuayPort.sendsResetReply (q : QuayPort) : Bool :=
  q.resetAwaiting && q.replies.isEmpty &&
    match q.transmitter with
    | some (.reply _) => true
    | some (.event ..) | some (.telemetry _) | none => false

/-- The last character of the SOFT RESET reply has been sent (R175). -/
def Device.resetEffect (d : Device) : Device := if d.quay.sendsResetReply then d.softReset else d

/-- The up-link frame being sent ends: the next is chosen, and frames that waited for room are processed (R164, R169).
The end of the SOFT RESET reply is the moment at which the reset takes effect. -/
def Device.frameSent (d : Device) : Device :=
  if d.quay.sendsResetReply then d.softReset
  else if d.quay.transmitter.isNone then d
  else { d with quay := { d.quay with transmitter := none }.startNext }.drain

/-- Power-on reset: every item takes its power-on value, and the pins keep the levels the outside drives (R86). The
counter of free values goes on, being the model's own. -/
def Device.powerOnReset (d : Device) : Device :=
  let pins := #v[d.trig.inputs[0].pin, d.trig.inputs[1].pin, d.trig.inputs[2].pin, d.trig.inputs[3].pin]
  { Device.powerOn pins with freeCount := d.freeCount }

end Sys2Proof.Machine
end

