-- ==== Sys2Proof/Machine/HostLink.lean ====
section
/-! DEFINITION. The commands of the Quay Link that are not requests, and the resets (R162, R163, R169, R174, R175). -/

namespace Sys2Proof.Machine

/-- POWER_ON_RESET: every item at its power-on value (R1, R102, R103, R134, R162). -/
def execPowerOnReset (s : State) : Host.Outcome State Fault Refusal :=
  .next (s.onDevice fun d => d.powerOnReset.settle)

/-- HOST_FRAME_RECEIVED: characters arrive (R163). -/
def execHostFrameReceived (chars : List Byte) (s : State) : Host.Outcome State Fault Refusal :=
  .next (s.onDevice fun d => (d.receive chars).settle)

/-- PAYLOAD_LENGTH_ABOVE_240: the first three characters of a frame arrive (R163). -/
def execPayloadLengthAbove240 (kind tag length : Byte) (s : State) : Host.Outcome State Fault Refusal :=
  .next (s.onDevice fun d => (d.receive [kind, tag, length]).settle)

/-- RECEIVER_LINE_QUIET (R163). -/
def execReceiverLineQuiet (s : State) : Host.Outcome State Fault Refusal :=
  .next (s.onDevice fun d => d.receiverQuiet.settle)

/-- UPLINK_FRAME_SENT (R169). -/
def execUplinkFrameSent (s : State) : Host.Outcome State Fault Refusal :=
  .next (s.onDevice fun d => d.frameSent.settle)

/-- RESET_TAKES_EFFECT (R175). -/
def execResetTakesEffect (s : State) : Host.Outcome State Fault Refusal :=
  .next (s.onDevice fun d => d.resetEffect.settle)

/-- SILENCE_TIMER_EXPIRES (R174). -/
def execSilenceTimerExpires (s : State) : Host.Outcome State Fault Refusal :=
  .next (s.onDevice fun d => d.hostSilence.settle)

end Sys2Proof.Machine
end

