-- ==== Sys2Proof/Machine/LineRequests.lean ====
section
/-! DEFINITION. The host's line commands: the processing of one LINE COMMAND frame each (R60, R164). -/

namespace Sys2Proof.Machine

/-- RUN_OUT (R67 to R69). -/
def execRunOut (tag line : Byte) (arg : Word16) (s : State) : Host.Outcome State Fault Refusal :=
  .next (s.onDevice (Device.serve tag (.line .runOut line arg)))

/-- LOCK (R67 to R69). -/
def execLock (tag line : Byte) (arg : Word16) (s : State) : Host.Outcome State Fault Refusal :=
  .next (s.onDevice (Device.serve tag (.line .lock line arg)))

/-- RELEASE (R67 to R69). -/
def execRelease (tag line : Byte) (arg : Word16) (s : State) : Host.Outcome State Fault Refusal :=
  .next (s.onDevice (Device.serve tag (.line .release line arg)))

/-- REWIND (R67 to R69). -/
def execRewind (tag line : Byte) (arg : Word16) (s : State) : Host.Outcome State Fault Refusal :=
  .next (s.onDevice (Device.serve tag (.line .rewind line arg)))

/-- TEND ON (R46). -/
def execTendOn (tag line : Byte) (arg : Word16) (s : State) : Host.Outcome State Fault Refusal :=
  .next (s.onDevice (Device.serve tag (.line .tendOn line arg)))

/-- TEND OFF (R47). -/
def execTendOff (tag line : Byte) (arg : Word16) (s : State) : Host.Outcome State Fault Refusal :=
  .next (s.onDevice (Device.serve tag (.line .tendOff line arg)))

/-- HOLD (R61, R17). -/
def execHold (tag line : Byte) (arg : Word16) (s : State) : Host.Outcome State Fault Refusal :=
  .next (s.onDevice (Device.serve tag (.line .hold line arg)))

/-- HEAVE (R61). -/
def execHeave (tag line : Byte) (arg : Word16) (s : State) : Host.Outcome State Fault Refusal :=
  .next (s.onDevice (Device.serve tag (.line .heave line arg)))

/-- PAYOUT (R61). -/
def execPayout (tag line : Byte) (arg : Word16) (s : State) : Host.Outcome State Fault Refusal :=
  .next (s.onDevice (Device.serve tag (.line .payout line arg)))

/-- A LINE COMMAND frame of a wrong length or with an undefined verb (R60). -/
def execUndefinedVerb (tag : Byte) (payload : List Byte) (s : State) : Host.Outcome State Fault Refusal :=
  .next (s.onDevice (Device.serve tag (readLineCommand payload)))

end Sys2Proof.Machine
end

