-- ==== Sys2Proof/Machine/ManagementRequests.lean ====
section
/-! DEFINITION. The host's management operations: the processing of one MANAGEMENT frame each (R164, R165). -/

namespace Sys2Proof.Machine

/-- ASSIGN LINE (R6). -/
def execAssignLine (tag line station drum group : Byte) (s : State) : Host.Outcome State Fault Refusal :=
  .next (s.onDevice (Device.serve tag (.assignLine line station drum group)))

/-- UNASSIGN LINE (R7). -/
def execUnassignLine (tag line : Byte) (s : State) : Host.Outcome State Fault Refusal :=
  .next (s.onDevice (Device.serve tag (.unassignLine line)))

/-- LOAD ENVELOPE (R2, R3). -/
def execLoadEnvelope (tag line : Byte) (slack low high alarm critical hyst persist count : Word16) (s : State) :
    Host.Outcome State Fault Refusal :=
  .next (s.onDevice (Device.serve tag (.loadEnvelope line slack low high alarm critical hyst persist count)))

/-- LOAD CALIBRATION (R2, R4). -/
def execLoadCalibration (tag line : Byte) (zero span shift : Word16) (cable : Byte) (s : State) :
    Host.Outcome State Fault Refusal :=
  .next (s.onDevice (Device.serve tag (.loadCalibration line zero span shift cable)))

/-- LOAD LIMITS (R2, R5). -/
def execLoadLimits (tag line : Byte) (stow min max step runOut rewind lock release divisor : Word16) (s : State) :
    Host.Outcome State Fault Refusal :=
  .next (s.onDevice (Device.serve tag (.loadLimits line stow min max step runOut rewind lock release divisor)))

/-- READ LINE (R1). -/
def execReadLine (tag line : Byte) (s : State) : Host.Outcome State Fault Refusal :=
  .next (s.onDevice (Device.serve tag (.readLine line)))

/-- CLEAR FAULT (R20). -/
def execClearFault (tag line : Byte) (s : State) : Host.Outcome State Fault Refusal :=
  .next (s.onDevice (Device.serve tag (.clearFault line)))

/-- ABORT LINE (R77). -/
def execAbortLine (tag line : Byte) (s : State) : Host.Outcome State Fault Refusal :=
  .next (s.onDevice (Device.serve tag (.abortLine line)))

/-- LOAD TRIGGER (R84). -/
def execLoadTrigger (tag entry source param enabled mode polarity action targetMode : Byte) (target : Word16) (s : State) :
    Host.Outcome State Fault Refusal :=
  .next (s.onDevice (Device.serve tag (.loadTrigger entry source param enabled mode polarity action targetMode target)))

/-- READ TRIGGER (R83). -/
def execReadTrigger (tag entry : Byte) (s : State) : Host.Outcome State Fault Refusal :=
  .next (s.onDevice (Device.serve tag (.readTrigger entry)))

/-- TRIGGER ACK (R99). -/
def execTriggerAck (tag entry : Byte) (s : State) : Host.Outcome State Fault Refusal :=
  .next (s.onDevice (Device.serve tag (.triggerAck entry)))

/-- FIRE TRIGGER (R90). -/
def execFireTrigger (tag entry : Byte) (s : State) : Host.Outcome State Fault Refusal :=
  .next (s.onDevice (Device.serve tag (.fireTrigger entry)))

/-- SET SCAN (R123). -/
def execSetScan (tag mode target : Byte) (scanSet prioritySet : LineSet) (interval : Word16) (s : State) :
    Host.Outcome State Fault Refusal :=
  .next (s.onDevice (Device.serve tag (.setScan mode target scanSet prioritySet interval)))

/-- READ SCAN (R122). -/
def execReadScan (tag : Byte) (s : State) : Host.Outcome State Fault Refusal :=
  .next (s.onDevice (Device.serve tag .readScan))

/-- STATION CONFIG (R136). -/
def execStationConfig (tag station mask : Byte) (limit : Word16) (s : State) : Host.Outcome State Fault Refusal :=
  .next (s.onDevice (Device.serve tag (.stationConfig station mask limit)))

/-- STATION POWER (R142). -/
def execStationPower (tag station onOff : Byte) (s : State) : Host.Outcome State Fault Refusal :=
  .next (s.onDevice (Device.serve tag (.stationPower station onOff)))

/-- GLOBAL POWER (R142). -/
def execGlobalPower (tag onOff : Byte) (s : State) : Host.Outcome State Fault Refusal :=
  .next (s.onDevice (Device.serve tag (.globalPower onOff)))

/-- ENABLE STATION (R141). -/
def execEnableStation (tag station : Byte) (s : State) : Host.Outcome State Fault Refusal :=
  .next (s.onDevice (Device.serve tag (.enableStation station)))

/-- PARK (R146). -/
def execPark (tag station : Byte) (s : State) : Host.Outcome State Fault Refusal :=
  .next (s.onDevice (Device.serve tag (.park station)))

/-- UNPARK (R146). -/
def execUnpark (tag station : Byte) (s : State) : Host.Outcome State Fault Refusal :=
  .next (s.onDevice (Device.serve tag (.unpark station)))

/-- STATION RESET (R148). -/
def execStationReset (tag station : Byte) (s : State) : Host.Outcome State Fault Refusal :=
  .next (s.onDevice (Device.serve tag (.stationReset station)))

/-- ACK STATION CHANGES (R137). -/
def execAckStationChanges (tag station flags : Byte) (s : State) : Host.Outcome State Fault Refusal :=
  .next (s.onDevice (Device.serve tag (.ackStationChanges station flags)))

/-- SET LINK (R167). -/
def execSetLink (tag : Byte) (silence discard hold window retry powerGood : Word16) (s : State) :
    Host.Outcome State Fault Refusal :=
  .next (s.onDevice (Device.serve tag (.setLink silence discard hold window retry powerGood)))

/-- READ STATUS (R168). -/
def execReadStatus (tag part : Byte) (s : State) : Host.Outcome State Fault Refusal :=
  .next (s.onDevice (Device.serve tag (.readStatus part)))

/-- SOFT RESET is processed (R175). -/
def execSoftReset (tag : Byte) (s : State) : Host.Outcome State Fault Refusal :=
  .next (s.onDevice (Device.serve tag .softReset))

/-- A MANAGEMENT frame with a code outside the table of R165. -/
def execUnknownOperation (tag code : Byte) (fields : List Byte) (s : State) : Host.Outcome State Fault Refusal :=
  .next (s.onDevice (Device.serve tag (readManagement (code :: fields))))

/-- A MANAGEMENT frame with an empty payload (R165). -/
def execEmptyManagementPayload (tag : Byte) (s : State) : Host.Outcome State Fault Refusal :=
  .next (s.onDevice (Device.serve tag .emptyManagement))

end Sys2Proof.Machine
end

