-- ==== Sys2Proof/Machine/Exchanges.lean ====
section
/-! DEFINITION. The commands of the exchange engine (sections 6.4): arbitration, read-back, the last character, the
response. A command that cannot happen in the engine's present state changes nothing (log entry 3). -/

namespace Sys2Proof.Machine

/-- The observer takes the traffic that a first character opens (R119). -/
def observeFirst (c : Byte) : Observer := if isPendantChar c then .pendantFrame [c] else .foreign false

/-- Changes the observer. -/
def Device.setObserver (d : Device) (o : Observer) : Device := { d with bus := { d.bus with observer := o } }

/-- The other master's arbitration character prevails over the part's (R112, R113). -/
def Device.arbitrationLost (d : Device) (winner : Byte) : Device :=
  match d.bus.engine, d.bus.exchange with
  | .sending, some x =>
    if prevails winner (arbitrationChar x.frame.priority 30) then (d.loseArbitration x).setObserver (observeFirst winner)
    else d
  | _, _ => d

/-- A character read back after the arbitration character differs from the one sent: the exchange ends in silence
(R112); a broadcast counts as sent (log entry 17). -/
def Device.readBackMismatch (d : Device) (order : SilenceOrder) : Device :=
  match d.bus.engine, d.bus.exchange with
  | .sending, some x =>
    match x.station with
    | some st => d.endExchange x st none order
    | none => d.endBroadcast x
  | _, _ => d

/-- The last character of a single-station frame has been sent: the response window starts (R112). -/
def Device.lastCharacter (d : Device) : Device :=
  match d.bus.engine, d.bus.exchange with
  | .sending, some x =>
    if x.station.isSome then
      { d with bus := { d.bus with
          engine := .awaitingResponse, window := some d.quay.link.window, response := none } }
    else d
  | _, _ => d

/-- The last character of a broadcast frame has been sent (R118). -/
def Device.broadcastDone (d : Device) : Device :=
  match d.bus.engine, d.bus.exchange with
  | .sending, some x => if x.station.isNone then d.endBroadcast x else d
  | _, _ => d

/-- The exchange that awaits a response, with its station. -/
def Device.awaited (d : Device) : Option (Exchange × StationId) :=
  match d.bus.engine, d.bus.exchange with
  | .awaitingResponse, some x => x.station.map fun st => (x, st)
  | _, _ => none

/-- A complete response is checked (R115); a STATUS that carries drum-motion code 3 uses a free value (log entry 9). -/
def Device.takeResponse (d : Device) (x : Exchange) (st : StationId) (cs : List Byte) (order : SilenceOrder) : Device :=
  let a := readAnswer x.frame.asked cs d.freeCount
  let d := if a.isSome && usesReservedMotion cs then { d with freeCount := d.freeCount + 1 } else d
  d.endExchange x st a order

/-- Characters of the response arrive, after those already received (R114). Characters beyond the response's own are
not looked at (log entry 21). -/
def Device.responseChars (d : Device) (cs : List Byte) (order : SilenceOrder) : Device :=
  match d.awaited with
  | none => d
  | some (x, st) =>
    match d.bus.response.getD [] ++ cs with
    | [] => d
    | c :: rest =>
      let n := responseLength c
      if rest.length + 1 < n then { d with bus := { d.bus with window := none, response := some (c :: rest) } }
      else d.takeResponse x st ((c :: rest).take n) order

/-- The first character of the response arrives. -/
def Device.responseFirst (d : Device) (c : Byte) (order : SilenceOrder) : Device :=
  if d.bus.response.isNone then d.responseChars [c] order else d

/-- The line goes quiet before the response is complete (R114). -/
def Device.responseBroken (d : Device) (order : SilenceOrder) : Device :=
  match d.awaited with
  | none => d
  | some (x, st) => if d.bus.response.isSome then d.endExchange x st none order else d

/-- The response window expires (R114). -/
def Device.windowExpires (d : Device) (order : SilenceOrder) : Device :=
  match d.awaited with
  | none => d
  | some (x, st) => if d.bus.window.isSome then d.endExchange x st none order else d

/-! ### The commands -/

/-- ARBITRATION_LOST (R113). -/
def execArbitrationLost (winner : Byte) (s : State) : Host.Outcome State Fault Refusal :=
  .next (s.onDevice fun d => (d.arbitrationLost winner).settle)

/-- READ_BACK_MISMATCH (R112). -/
def execReadBackMismatch (order : SilenceOrder) (s : State) : Host.Outcome State Fault Refusal :=
  .next (s.onDevice fun d => (d.readBackMismatch order).settle)

/-- LAST_CHARACTER_SENT (R112). -/
def execLastCharacterSent (s : State) : Host.Outcome State Fault Refusal :=
  .next (s.onDevice fun d => d.lastCharacter.settle)

/-- BROADCAST_SENT (R118). -/
def execBroadcastSent (s : State) : Host.Outcome State Fault Refusal :=
  .next (s.onDevice fun d => d.broadcastDone.settle)

/-- RESPONSE_FIRST_CHARACTER (R114). -/
def execResponseFirstCharacter (char : Byte) (order : SilenceOrder) (s : State) : Host.Outcome State Fault Refusal :=
  .next (s.onDevice fun d => (d.responseFirst char order).settle)

/-- RESPONSE_COMPLETE (R115). -/
def execResponseComplete (chars : List Byte) (order : SilenceOrder) (s : State) : Host.Outcome State Fault Refusal :=
  .next (s.onDevice fun d => (d.responseChars chars order).settle)

/-- RESPONSE_BROKEN (R114). -/
def execResponseBroken (order : SilenceOrder) (s : State) : Host.Outcome State Fault Refusal :=
  .next (s.onDevice fun d => (d.responseBroken order).settle)

/-- RESPONSE_WINDOW_EXPIRES (R114). -/
def execResponseWindowExpires (order : SilenceOrder) (s : State) : Host.Outcome State Fault Refusal :=
  .next (s.onDevice fun d => (d.windowExpires order).settle)

end Sys2Proof.Machine
end

