-- ==== Sys2Proof/Machine/Observing.lean ====
section
/-! DEFINITION. The commands of the bus observer (R119 to R121). A command that cannot happen in the observer's present
state changes nothing (log entry 3). -/

namespace Sys2Proof.Machine

/-- A pendant exchange ends: it is passed to Local Control, which does `f`, and the bus becomes free at the same
moment, so the scheduler's choice may be taken on either side of `f` (R157). A choice taken first may send a tend entry
that `f` then removes while SENT, its exchange detached, where R152 calls the removed entry UNSENT (model's choice, log
entry 34). -/
def Device.passEnding (d : Device) (order : FreeOrder) (f : Device → Device) : Device :=
  let d := d.setObserver .quiet
  match order with
  | .endingFirst => f d
  | .choiceFirst => f d.choose

/-- A complete pendant frame (R119, R120, R153, R155). -/
def Device.pendantFrame (d : Device) (cs : List Byte) (order : FreeOrder) : Device :=
  if ¬goodDownstream cs then d.setObserver .quiet
  else
    let dest := (askedOf cs).dest
    let verb := cs.getD 2 0
    if 1 ≤ dest ∧ dest ≤ 16 then d.setObserver (.pendantWindow cs (some d.quay.link.window))
    else if dest = 31 ∧ verb = codeBusVerb .stop then d.passEnding order Device.broadcastStop
    else if dest = 30 ∧ verb = codeBusVerb .handBack then
      d.passEnding order fun d => d.handBack (word16 (cs.getD 4 0) (cs.getD 5 0))
    else d.setObserver .quiet

/-- Characters of a pendant frame arrive, after those already received. -/
def Device.pendantChars (d : Device) (cs : List Byte) (order : FreeOrder) : Device :=
  match d.bus.observer with
  | .pendantFrame got =>
    let all := got ++ cs
    if all.length < 7 then d.setObserver (.pendantFrame all) else d.pendantFrame (all.take 7) order
  | .quiet | .pendantWindow .. | .pendantResponse .. | .foreign _ => d

/-- A complete answer to the pendant is checked as a response to the part is (R115, R119); a valid one is a takeover of
the addressed station, with the pendant's verb (R152). -/
def Device.pendantAnswer (d : Device) (frame cs : List Byte) (order : FreeOrder) : Device :=
  match readAnswer (askedOf frame) cs d.freeCount, id16 (BitVec.ofNat 8 (askedOf frame).dest) with
  | some _, some st => d.passEnding order fun d => d.takeover st (frame.getD 2 0)
  | _, _ => d.setObserver .quiet

/-- Characters of the answer, all that have come. -/
def Device.answerChars (d : Device) (frame cs : List Byte) (order : FreeOrder) : Device :=
  match cs with
  | [] => d
  | c :: rest =>
    let n := responseLength c
    if rest.length + 1 < n then d.setObserver (.pendantResponse frame (c :: rest))
    else d.pendantAnswer frame ((c :: rest).take n) order

/-- Characters of a station's answer to the pendant arrive (R119). -/
def Device.pendantResponse (d : Device) (cs : List Byte) (order : FreeOrder) : Device :=
  match d.bus.observer with
  | .pendantWindow frame _ => d.answerChars frame cs order
  | .pendantResponse frame got => d.answerChars frame (got ++ cs) order
  | .quiet | .pendantFrame _ | .foreign _ => d

/-- The first character of a station's answer to the pendant arrives (R119). -/
def Device.pendantResponseFirst (d : Device) (c : Byte) : Device :=
  match d.bus.observer with
  | .pendantWindow frame _ => d.answerChars frame [c] .endingFirst
  | .quiet | .pendantFrame _ | .pendantResponse .. | .foreign _ => d

/-- The observer's window expires with no first character (R119). -/
def Device.pendantWindowEnds (d : Device) : Device :=
  match d.bus.observer with
  | .pendantWindow .. => d.setObserver .quiet
  | .quiet | .pendantFrame _ | .pendantResponse .. | .foreign _ => d

/-- The line goes quiet after broken pendant or foreign traffic (R119). -/
def Device.observerQuiet (d : Device) : Device :=
  match d.bus.observer with
  | .pendantFrame _ | .pendantResponse .. | .foreign false => d.setObserver .quiet
  | .quiet | .pendantWindow .. | .foreign true => d

/-- The line has been quiet for one response window after a reset (R121). -/
def Device.quietAfterReset (d : Device) : Device :=
  match d.bus.observer with
  | .foreign true => d.setObserver .quiet
  | .quiet | .pendantFrame _ | .pendantWindow .. | .pendantResponse .. | .foreign false => d

/-- A character arrives on the free bus (R119). -/
def Device.trafficStarts (d : Device) (c : Byte) : Device :=
  if d.bus.isFree then d.setObserver (observeFirst c) else d

/-! ### The commands -/

/-- PENDANT_FRAME_OBSERVED (R119). -/
def execPendantFrameObserved (chars : List Byte) (order : FreeOrder) (s : State) : Host.Outcome State Fault Refusal :=
  .next (s.onDevice fun d => (d.pendantChars chars order).settle)

/-- PENDANT_WINDOW_EXPIRES (R119). -/
def execPendantWindowExpires (s : State) : Host.Outcome State Fault Refusal :=
  .next (s.onDevice fun d => d.pendantWindowEnds.settle)

/-- PENDANT_RESPONSE_OBSERVED (R119, R152). -/
def execPendantResponseObserved (chars : List Byte) (order : FreeOrder) (s : State) :
    Host.Outcome State Fault Refusal :=
  .next (s.onDevice fun d => (d.pendantResponse chars order).settle)

/-- PENDANT_RESPONSE_STARTS (R119). -/
def execPendantResponseStarts (char : Byte) (s : State) : Host.Outcome State Fault Refusal :=
  .next (s.onDevice fun d => (d.pendantResponseFirst char).settle)

/-- OBSERVER_LINE_QUIET (R119). -/
def execObserverLineQuiet (s : State) : Host.Outcome State Fault Refusal :=
  .next (s.onDevice fun d => d.observerQuiet.settle)

/-- BUS_QUIET_AFTER_RESET (R121). -/
def execBusQuietAfterReset (s : State) : Host.Outcome State Fault Refusal :=
  .next (s.onDevice fun d => d.quietAfterReset.settle)

/-- OBSERVED_TRAFFIC_STARTS (R119). -/
def execObservedTrafficStarts (char : Byte) (s : State) : Host.Outcome State Fault Refusal :=
  .next (s.onDevice fun d => (d.trafficStarts char).settle)

end Sys2Proof.Machine
end

