-- ==== Sys2Proof/Machine/Timing.lean ====
section
/-! DEFINITION. The commands that a timer's expiry or a pin gives, and the tick. An expiry acts whenever its timer is
running (log entry 2); on a stopped timer it changes nothing (log entry 3). -/

namespace Sys2Proof.Machine

/-! ### Expiries -/

/-- A station's local hold timer expires (R154). -/
def Device.holdExpires (d : Device) (st : StationId) : Device :=
  if d.hold[st].isSome then d.returnStation st .timeout else d

/-- A station's power-good timer expires (R143). -/
def Device.powerGoodExpires (d : Device) (st : StationId) : Device :=
  if d.stations[st].powerGood.isSome then d.powerReady st else d

/-- A slot's action timer expires (R74). -/
def Device.actionExpires (d : Device) (k : SlotId) : Device :=
  if d.bridge.slots[k].state = .awaiting ∧ d.bridge.slots[k].actionTimer.isSome then d.endSlot k .actionTimeout else d

/-- A slot's discard timer expires (R76). -/
def Device.discardExpires (d : Device) (k : SlotId) : Device :=
  let s := d.bridge.slots[k]
  match s.discardTimer, s.command, s.result with
  | some _, some c, some r => (d.setSlot k {}).queueEvent (.completionDiscarded c.line c.verb c.tag r)
  | _, _, _ => d

/-- A line's release timer expires (R100, R23). -/
def Device.releaseExpires (d : Device) (i : LineId) : Device :=
  if d.trig.releaseTimers[i].isSome then
    { d with trig := { d.trig with releaseTimers := put d.trig.releaseTimers i none } }.endRelease i false
  else d

/-- Changes a trigger input. -/
def Device.setInput (d : Device) (n : InputId) (x : TriggerInput) : Device :=
  { d with trig := { d.trig with inputs := put d.trig.inputs n x } }

/-- A trigger input takes a level (R86): the stability timer runs while the level differs from the debounced one. -/
def Device.inputLevel (d : Device) (n : InputId) (l : Level) : Device :=
  let x := d.trig.inputs[n]
  let t := if l = x.debounced then none else if x.stability.isSome then x.stability else some 20
  d.setInput n { x with pin := l, stability := t }

/-- An input's stability timer expires: the debounced level becomes the input's level, and the change is taken. -/
def Device.stabilityExpires (d : Device) (n : InputId) : Device :=
  let x := d.trig.inputs[n]
  if x.stability.isSome then (d.setInput n { x with debounced := x.pin, stability := none }).takeConditions else d

/-! ### The tick (log entry 1) -/

/-- One millisecond less, down to 0. -/
def Timer.tick (t : Timer) : Timer := t.map fun ms => ms - 1

/-- One millisecond less on the observer's window. -/
def Observer.tick (o : Observer) : Observer :=
  match o with
  | .pendantWindow frame w => .pendantWindow frame (Timer.tick w)
  | .quiet | .pendantFrame _ | .pendantResponse .. | .foreign _ => o

/-- One millisecond less on both timers of a slot. -/
def Slot.tick (s : Slot) : Slot :=
  { s with actionTimer := Timer.tick s.actionTimer, discardTimer := Timer.tick s.discardTimer }

/-- One millisecond passes with no command: every running timer counts down, and nothing else changes. -/
def Device.tick (d : Device) : Device :=
  { d with
    quay := { d.quay with silenceTimer := Timer.tick d.quay.silenceTimer }
    bridge := { d.bridge with slots := allSlots.foldl (fun v k => put v k v[k].tick) d.bridge.slots }
    trig := { d.trig with
      releaseTimers := mapAll d.trig.releaseTimers Timer.tick
      inputs := allInputs.foldl (fun v n => put v n { v[n] with stability := Timer.tick v[n].stability }) d.trig.inputs }
    scan := { d.scan with
      intervalTimer := Timer.tick d.scan.intervalTimer
      followUp := mapAll d.scan.followUp Timer.tick
      probe := mapAll d.scan.probe Timer.tick }
    bus := { d.bus with window := Timer.tick d.bus.window, observer := d.bus.observer.tick }
    stations := mapAll d.stations fun r => { r with powerGood := Timer.tick r.powerGood }
    hold := mapAll d.hold Timer.tick }

/-! ### The commands -/

/-- LOCAL_HOLD_TIMER_EXPIRES (R154). -/
def execLocalHoldTimerExpires (station : StationId) (s : State) : Host.Outcome State Fault Refusal :=
  .next (s.onDevice fun d => (d.holdExpires station).settle)

/-- POWER_GOOD_TIMER_EXPIRES (R143). -/
def execPowerGoodTimerExpires (station : StationId) (s : State) : Host.Outcome State Fault Refusal :=
  .next (s.onDevice fun d => (d.powerGoodExpires station).settle)

/-- INTERVAL_TIMER_EXPIRES (R128). -/
def execIntervalTimerExpires (s : State) : Host.Outcome State Fault Refusal :=
  .next (s.onDevice fun d => d.intervalExpires.settle)

/-- FOLLOW_UP_TIMER_EXPIRES (R133). -/
def execFollowUpTimerExpires (line : LineId) (s : State) : Host.Outcome State Fault Refusal :=
  .next (s.onDevice fun d => (d.followUpExpires line).settle)

/-- PROBE_TIMER_EXPIRES (R132). -/
def execProbeTimerExpires (station : StationId) (s : State) : Host.Outcome State Fault Refusal :=
  .next (s.onDevice fun d => (d.probeExpires station).settle)

/-- ACTION_TIMER_EXPIRES (R74). -/
def execActionTimerExpires (slot : SlotId) (s : State) : Host.Outcome State Fault Refusal :=
  .next (s.onDevice fun d => (d.actionExpires slot).settle)

/-- DISCARD_TIMER_EXPIRES (R76). -/
def execDiscardTimerExpires (slot : SlotId) (s : State) : Host.Outcome State Fault Refusal :=
  .next (s.onDevice fun d => (d.discardExpires slot).settle)

/-- RELEASE_TIMER_EXPIRES (R100). -/
def execReleaseTimerExpires (line : LineId) (s : State) : Host.Outcome State Fault Refusal :=
  .next (s.onDevice fun d => (d.releaseExpires line).settle)

/-- INPUT_LEVEL_CHANGE (R86). -/
def execInputLevelChange (input : InputId) (level : Level) (s : State) : Host.Outcome State Fault Refusal :=
  .next (s.onDevice fun d => (d.inputLevel input level).settle)

/-- STABILITY_TIMER_EXPIRES (R86). -/
def execStabilityTimerExpires (input : InputId) (s : State) : Host.Outcome State Fault Refusal :=
  .next (s.onDevice fun d => (d.stabilityExpires input).settle)

end Sys2Proof.Machine
end

