-- ==== Sys2Proof/Machine/Dispatch.lean ====
section
/-! DEFINITION. One arm for every command: the call of its meaning. -/

namespace Sys2Proof.Machine

/-- What a command does to everything but the queue. -/
def exec (i : Instr) (s : State) : Host.Outcome State Fault Refusal :=
  match i with
  | .powerOnReset => Sys2Proof.Machine.execPowerOnReset s
  | .hostFrameReceived chars => Sys2Proof.Machine.execHostFrameReceived chars s
  | .receiverLineQuiet => Sys2Proof.Machine.execReceiverLineQuiet s
  | .unknownOperation tag code fields => Sys2Proof.Machine.execUnknownOperation tag code fields s
  | .runOut tag line arg => Sys2Proof.Machine.execRunOut tag line arg s
  | .lock tag line arg => Sys2Proof.Machine.execLock tag line arg s
  | .release tag line arg => Sys2Proof.Machine.execRelease tag line arg s
  | .rewind tag line arg => Sys2Proof.Machine.execRewind tag line arg s
  | .tendOn tag line arg => Sys2Proof.Machine.execTendOn tag line arg s
  | .tendOff tag line arg => Sys2Proof.Machine.execTendOff tag line arg s
  | .hold tag line arg => Sys2Proof.Machine.execHold tag line arg s
  | .heave tag line arg => Sys2Proof.Machine.execHeave tag line arg s
  | .payout tag line arg => Sys2Proof.Machine.execPayout tag line arg s
  | .assignLine tag line station drum group => Sys2Proof.Machine.execAssignLine tag line station drum group s
  | .unassignLine tag line => Sys2Proof.Machine.execUnassignLine tag line s
  | .loadEnvelope tag line slack low high alarm critical hyst persist count => Sys2Proof.Machine.execLoadEnvelope tag line slack low high alarm critical hyst persist count s
  | .loadCalibration tag line zero span shift cable => Sys2Proof.Machine.execLoadCalibration tag line zero span shift cable s
  | .loadLimits tag line stow min max step runOut rewind lock release divisor => Sys2Proof.Machine.execLoadLimits tag line stow min max step runOut rewind lock release divisor s
  | .readLine tag line => Sys2Proof.Machine.execReadLine tag line s
  | .clearFault tag line => Sys2Proof.Machine.execClearFault tag line s
  | .abortLine tag line => Sys2Proof.Machine.execAbortLine tag line s
  | .loadTrigger tag entry source param enabled mode polarity action targetMode target => Sys2Proof.Machine.execLoadTrigger tag entry source param enabled mode polarity action targetMode target s
  | .readTrigger tag entry => Sys2Proof.Machine.execReadTrigger tag entry s
  | .triggerAck tag entry => Sys2Proof.Machine.execTriggerAck tag entry s
  | .fireTrigger tag entry => Sys2Proof.Machine.execFireTrigger tag entry s
  | .setScan tag mode target scanSet prioritySet interval => Sys2Proof.Machine.execSetScan tag mode target scanSet prioritySet interval s
  | .readScan tag => Sys2Proof.Machine.execReadScan tag s
  | .stationConfig tag station mask limit => Sys2Proof.Machine.execStationConfig tag station mask limit s
  | .stationPower tag station onOff => Sys2Proof.Machine.execStationPower tag station onOff s
  | .globalPower tag onOff => Sys2Proof.Machine.execGlobalPower tag onOff s
  | .enableStation tag station => Sys2Proof.Machine.execEnableStation tag station s
  | .park tag station => Sys2Proof.Machine.execPark tag station s
  | .unpark tag station => Sys2Proof.Machine.execUnpark tag station s
  | .stationReset tag station => Sys2Proof.Machine.execStationReset tag station s
  | .ackStationChanges tag station flags => Sys2Proof.Machine.execAckStationChanges tag station flags s
  | .setLink tag silence discard hold window retry powerGood => Sys2Proof.Machine.execSetLink tag silence discard hold window retry powerGood s
  | .readStatus tag part => Sys2Proof.Machine.execReadStatus tag part s
  | .softReset tag => Sys2Proof.Machine.execSoftReset tag s
  | .resetTakesEffect => Sys2Proof.Machine.execResetTakesEffect s
  | .uplinkFrameSent => Sys2Proof.Machine.execUplinkFrameSent s
  | .silenceTimerExpires => Sys2Proof.Machine.execSilenceTimerExpires s
  | .arbitrationLost winner => Sys2Proof.Machine.execArbitrationLost winner s
  | .readBackMismatch order => Sys2Proof.Machine.execReadBackMismatch order s
  | .lastCharacterSent => Sys2Proof.Machine.execLastCharacterSent s
  | .broadcastSent => Sys2Proof.Machine.execBroadcastSent s
  | .responseComplete chars order => Sys2Proof.Machine.execResponseComplete chars order s
  | .responseBroken order => Sys2Proof.Machine.execResponseBroken order s
  | .responseWindowExpires order => Sys2Proof.Machine.execResponseWindowExpires order s
  | .pendantFrameObserved chars order => Sys2Proof.Machine.execPendantFrameObserved chars order s
  | .pendantWindowExpires => Sys2Proof.Machine.execPendantWindowExpires s
  | .pendantResponseObserved chars order => Sys2Proof.Machine.execPendantResponseObserved chars order s
  | .observerLineQuiet => Sys2Proof.Machine.execObserverLineQuiet s
  | .busQuietAfterReset => Sys2Proof.Machine.execBusQuietAfterReset s
  | .localHoldTimerExpires station => Sys2Proof.Machine.execLocalHoldTimerExpires station s
  | .powerGoodTimerExpires station => Sys2Proof.Machine.execPowerGoodTimerExpires station s
  | .intervalTimerExpires => Sys2Proof.Machine.execIntervalTimerExpires s
  | .followUpTimerExpires line => Sys2Proof.Machine.execFollowUpTimerExpires line s
  | .probeTimerExpires station => Sys2Proof.Machine.execProbeTimerExpires station s
  | .actionTimerExpires slot => Sys2Proof.Machine.execActionTimerExpires slot s
  | .discardTimerExpires slot => Sys2Proof.Machine.execDiscardTimerExpires slot s
  | .releaseTimerExpires line => Sys2Proof.Machine.execReleaseTimerExpires line s
  | .inputLevelChange input level => Sys2Proof.Machine.execInputLevelChange input level s
  | .stabilityTimerExpires input => Sys2Proof.Machine.execStabilityTimerExpires input s
  | .responseFirstCharacter char order => Sys2Proof.Machine.execResponseFirstCharacter char order s
  | .pendantResponseStarts char => Sys2Proof.Machine.execPendantResponseStarts char s
  | .observedTrafficStarts char => Sys2Proof.Machine.execObservedTrafficStarts char s
  | .payloadLengthAbove240 kind tag length => Sys2Proof.Machine.execPayloadLengthAbove240 kind tag length s
  | .undefinedVerb tag payload => Sys2Proof.Machine.execUndefinedVerb tag payload s
  | .emptyManagementPayload tag => Sys2Proof.Machine.execEmptyManagementPayload tag s

end Sys2Proof.Machine
end

