-- ==== Sys2Proof/WellFormed.lean ====
section
/-! DEFINITION. Which terms of Instr are commands of the part: the characters and payloads a command carries are as
many as its row's event brings, and a row for an undefined code carries one. -/

namespace Sys2Proof

open Machine in
/-- A well-formed command. Every operand of fixed width may have any value: an undefined code or a value outside its
range is refused or clamped by the command's meaning. -/
def Instr.wellFormed : Instr → Bool
  | .hostFrameReceived cs => !cs.isEmpty
  | .payloadLengthAbove240 _ _ n => decide (240 < n.toNat)
  | .unknownOperation _ code fields => decide (code.toNat ∉ operationCodes) && decide (fields.length ≤ 239)
  | .undefinedVerb _ p => decide (readLineCommand p = .badLine p) && decide (p.length ≤ 240)
  | .responseComplete cs _ => !cs.isEmpty && decide (cs.length ≤ 9)
  | .pendantFrameObserved cs _ => !cs.isEmpty && decide (cs.length ≤ 7)
  | .pendantResponseObserved cs _ => !cs.isEmpty && decide (cs.length ≤ 9)
  | _ => true

end Sys2Proof
end

