-- ==== Sys2Proof/Safety.lean ====
section
/-! DEFINITION. What "safe" means of this machine: which outcomes a step may have and the invariants that the spec
states of its queues and of ALM; and the terms in which the statements speak: a request processed at once, the part
after its reply, the parts of a state that a scheduler's choice leaves alone. -/

namespace Sys2Proof.Machine

/-! ### Invariants -/

/-- A step goes on: it neither faults nor refuses. The spec gives the part nothing that stops it. -/
def GoesOn (o : Host.Outcome State Fault Refusal) : Prop := ∃ t, o = .next t

/-- ALM stands as R101 gives it. -/
def AlmHolds (s : State) : Prop := s.dev.trig.alm = s.dev.almCondition

/-- What a poll entry is for: a line or a station (R129). -/
def PollEntry.key : PollEntry → LineId ⊕ StationId
  | .line i _ _ => .inl i
  | .probe st => .inr st

/-- What a frame of the STATION source is for: its station, and 0 for a station operation, 1 or 2 for the abort STOP of
drum A or B (R78, R146). -/
def StationItem.key (x : StationItem) : StationId × Fin 3 :=
  match x.frame with
  | .op _ => (x.station, 0)
  | .stop .a => (x.station, 1)
  | .stop .b => (x.station, 2)

/-- The queues, the lists and the counts stay within their places: 16 events (R170), 4 replies and 4 received frames
(R162, R164), 8 posted entries (R62); one tend request for a line (R52), one poll for a line and one probe for a station
(R129), one trigger action for an entry, which is then PENDING (R91), one operation for a station and one abort STOP for a
drum in the STATION source (R78, R146, R148); a poll run of 4 (R107), in an exchange to be given back too (R113); and a
missed-response count of 15 (R116). -/
def QueuesWithin (s : State) : Prop :=
  s.dev.quay.events.length ≤ 16 ∧ s.dev.quay.replies.length ≤ 4 ∧ s.dev.quay.rxBuffer.length ≤ 4
    ∧ s.dev.bridge.posted.length ≤ 8
    ∧ (s.dev.tend.map TendEntry.line).Nodup
    ∧ (s.dev.scan.pollList.map PollEntry.key).Nodup
    ∧ (s.dev.trig.actions.map ActionRecord.entry).Nodup
    ∧ (∀ r ∈ s.dev.trig.actions, s.dev.trig.entries[r.entry].status = .pending)
    ∧ (s.dev.bus.stationSource.map StationItem.key).Nodup
    ∧ s.dev.bus.pollRun ≤ 4
    ∧ (∀ x ∈ s.dev.bus.exchange, x.undo.pollRun ≤ 4)
    ∧ (∀ st : StationId, s.dev.stations[st].missed ≤ 15)

/-! ### Requests and their replies -/

/-- The machine when the silence monitor has taken a valid frame of the host (R87, R174), before the frame's request is
processed (log entry 4). -/
def State.heard (s : State) : State := s.onDevice Device.hostHeard

/-- The Quay Port takes up a frame the moment it comes: no frame waits before it, the reply queue has a free place, and
no reset awaits its reply (R164). -/
def Device.ready (d : Device) : Prop :=
  d.quay.rxBuffer = [] ∧ d.quay.replies.length < 4 ∧ d.quay.resetAwaiting = false

/-- The machine after a processing that left the part as `d` and answers with reply `r` (R164), the scheduler's choice
and ALM taken last (log entry 7). -/
def State.answered (s : State) (r : Reply) (d : Device) : State := { s with dev := (d.pushReply r).settle }

/-- The machine after a line command with verb `v` is answered. -/
def State.lineAnswer (s : State) (v : LineVerb) (tag : Byte) (d : Device) (status : ReplyStatus)
    (data : List Byte := []) : State :=
  s.answered { tag := tag, status := status, kind := .lineCommand, code := codeLineVerb v, data := data } d

/-- The machine after a management operation with code `code` is answered. -/
def State.opAnswer (s : State) (code tag : Byte) (d : Device) (status : ReplyStatus) (data : List Byte := []) :
    State :=
  s.answered { tag := tag, status := status, kind := .management, code := code, data := data } d

/-- The command of a posted verb. -/
def PostedVerb.command : PostedVerb → Byte → Byte → Word16 → Instr
  | .hold => .hold
  | .heave => .heave
  | .payout => .payout

/-- The line verb of a posted command. -/
def PostedVerb.verb : PostedVerb → LineVerb
  | .hold => .hold
  | .heave => .heave
  | .payout => .payout

/-- The command of a confirmed verb. -/
def ConfirmedVerb.command : ConfirmedVerb → Byte → Byte → Word16 → Instr
  | .runOut => .runOut
  | .lock => .lock
  | .release => .release
  | .rewind => .rewind

/-- The line verb of a confirmed command. -/
def ConfirmedVerb.verb : ConfirmedVerb → LineVerb
  | .runOut => .runOut
  | .lock => .lock
  | .release => .release
  | .rewind => .rewind

/-- The request that a command of the host stands for, with its tag; none for the other commands. -/
def hostRequest (c : Instr) : Option (Byte × Request) :=
  match c with
  | .runOut tag l a => some (tag, .line .runOut l a)
  | .lock tag l a => some (tag, .line .lock l a)
  | .release tag l a => some (tag, .line .release l a)
  | .rewind tag l a => some (tag, .line .rewind l a)
  | .tendOn tag l a => some (tag, .line .tendOn l a)
  | .tendOff tag l a => some (tag, .line .tendOff l a)
  | .hold tag l a => some (tag, .line .hold l a)
  | .heave tag l a => some (tag, .line .heave l a)
  | .payout tag l a => some (tag, .line .payout l a)
  | .undefinedVerb tag p => some (tag, readLineCommand p)
  | .unknownOperation tag code fields => some (tag, readManagement (code :: fields))
  | .emptyManagementPayload tag => some (tag, .emptyManagement)
  | .assignLine tag l s d g => some (tag, .assignLine l s d g)
  | .unassignLine tag l => some (tag, .unassignLine l)
  | .loadEnvelope tag l s lo hi a c h p n => some (tag, .loadEnvelope l s lo hi a c h p n)
  | .loadCalibration tag l z s k c => some (tag, .loadCalibration l z s k c)
  | .loadLimits tag l st mn mx ts ro rw lk rl dv => some (tag, .loadLimits l st mn mx ts ro rw lk rl dv)
  | .readLine tag l => some (tag, .readLine l)
  | .clearFault tag l => some (tag, .clearFault l)
  | .abortLine tag l => some (tag, .abortLine l)
  | .loadTrigger tag e s p en m po a tm t => some (tag, .loadTrigger e s p en m po a tm t)
  | .readTrigger tag e => some (tag, .readTrigger e)
  | .triggerAck tag e => some (tag, .triggerAck e)
  | .fireTrigger tag e => some (tag, .fireTrigger e)
  | .setScan tag m t ss ps iv => some (tag, .setScan m t ss ps iv)
  | .readScan tag => some (tag, .readScan)
  | .stationConfig tag s m l => some (tag, .stationConfig s m l)
  | .stationPower tag s o => some (tag, .stationPower s o)
  | .globalPower tag o => some (tag, .globalPower o)
  | .enableStation tag s => some (tag, .enableStation s)
  | .park tag s => some (tag, .park s)
  | .unpark tag s => some (tag, .unpark s)
  | .stationReset tag s => some (tag, .stationReset s)
  | .ackStationChanges tag s f => some (tag, .ackStationChanges s f)
  | .setLink tag a b c d e f => some (tag, .setLink a b c d e f)
  | .readStatus tag p => some (tag, .readStatus p)
  | .softReset tag => some (tag, .softReset)
  | _ => none

/-- A request as a payload gives it: each of the four that stand for a payload with no meaning holds such a
payload. -/
def Request.canonical (r : Request) : Prop :=
  match r with
  | .badLine p => readLineCommand p = .badLine p
  | .unknown c _ => c.toNat ∉ operationCodes
  | .wrongLength c fs => c.toNat ∈ operationCodes ∧ readFields c.toNat fs = none
  | _ => True

/-! ### What a scheduler's choice leaves alone -/

/-- A line record but for the two fields that a sending may write: the line poll count and the trigger action in
flight (R94, R130). -/
def LineRecord.unsent (r : LineRecord) : LineRecord := { r with pollCount := 0, triggerInFlight := none }

/-- A line record but for the four fields that the end of a slot, a firing or a release may write: state, resync
pending, fault cause and trigger action in flight (R10 to R16, R22, R23). -/
def LineRecord.unworked (r : LineRecord) : LineRecord :=
  { r with state := .unassigned, resync := false, cause := none, triggerInFlight := none }

/-! ### What a station's loss leaves, and the events of an occurrence -/

/-- What a drop-out and a power-off alike leave of a station's work: each assigned line in FAULT with cause STATION_LOST
and no tend request of a line that was TENDING (R25, R9), each live slot of them COMPLETE with NO_RESPONSE (R80), no posted
entry (R65), no frame in the STATION source (R78, R140, R144), and no trigger target WAITING or SENT (R97). -/
def WorkGone (d t : Device) (st : StationId) : Prop :=
  (∀ i : LineId, d.lines[i].onStation st = true → t.lines[i].state = .fault ∧ t.lines[i].cause = some .stationLost) ∧
  (∀ i : LineId, d.lines[i].onStation st = true → d.lines[i].state = .tending → ∀ x ∈ t.tend, x.line ≠ i) ∧
  (∀ k : SlotId, d.bridge.slots[k].live = true → d.slotOnStation st d.bridge.slots[k] = true →
    t.bridge.slots[k].state = .complete ∧ t.bridge.slots[k].result = some .noResponse) ∧
  t.bridge.posted = d.bridge.posted.filter (fun p => decide (p.station ≠ st)) ∧
  (∀ x ∈ t.bus.stationSource, x.station ≠ st) ∧
  (∀ r ∈ t.trig.actions, ∀ y ∈ r.targets, d.lines[y.line].onStation st = true →
    y.state ≠ .waiting ∧ y.state ≠ .sent)

/-- The LINE_FAULT events of a station's lines that enter FAULT with cause STATION_LOST, in ascending line number; a line
that held it already queues none (R10, R25). -/
def Device.lostFaults (d : Device) (st : StationId) : List Event :=
  ((d.linesOf st).filter fun i =>
    decide (¬(d.lines[i].state = .fault ∧ d.lines[i].cause = some .stationLost))).map fun i => .lineFault i .stationLost

/-- The POSTED_UNDELIVERED events of a station's posted entries, in queue order (R65). -/
def Device.lostPosted (d : Device) (st : StationId) (reason : UndeliveredReason) : List Event :=
  (d.bridge.posted.filter fun p => decide (p.station = st)).map fun p =>
    .postedUndelivered p.line p.station p.verb p.arg p.attempts reason

/-- The STATION_CHANGE of an occurrence that leaves a station's record as `r` and found its flags as `old`: one event with
the flags newly set, none where no flag is new (R137). -/
def stationChanges (st : StationId) (old : ChangeFlags) (r : StationRecord) : List Event :=
  let newly := r.flags.without old
  if newly.any then
    [.stationChange st newly r.flags r.power r.presence r.enabled r.parked r.driveFault r.resetting]
  else []

/-- A delivery's event (R98). -/
def Event.isDelivery : Event → Bool
  | .triggerDelivered .. => true
  | _ => false

/-- An event that the trigger entries queue when they take their conditions (R91, R98). -/
def Event.ofEntries : Event → Bool
  | .triggerFired .. | .triggerDelivered .. => true
  | _ => false

/-! ### A line given to the pendant -/

/-- The record of a line given to the pendant: owner LOCAL, and LOCKED in place of TENDING (R24). -/
def LineRecord.taken (r : LineRecord) : LineRecord :=
  { r with owner := .localOwner, state := if r.state = .tending then .locked else r.state }

/-- The record of a LOCAL line whose slot has ended PREEMPTED: a slot that was QUEUED gives a line in its verb's
transitional state back its prior state, LOCKED in place of TENDING (R15, R9); a slot that had been sent sets resync
pending (R16). -/
def LineRecord.preempted (r : LineRecord) (c : SlotCommand) (before : SlotState) : LineRecord :=
  if before = .queued then
    if r.state = c.verb.transitional then { r with state := if c.prior = .tending then .locked else c.prior } else r
  else { r with resync := true }

end Sys2Proof.Machine
end

