-- ==== Sys2Proof/Certificates/Slice0/Obligations.lean ====
section
/-! DEFINITION. The statements about the machine. `s` is a state, `s.dev` the part; the statements about the host's
commands speak of a part `s₀` that is ready to process (R164), and one of their own says what happens in the others. In
them `s` is `s₀` when the silence monitor has taken the request's valid frame (`heard`, R87, R174), which is the state the
request is processed in. Two choices of the model run through them: a request's row is the reception and the processing of
its frame (log entry 4), and every command ends with the scheduler's choice and ALM re-formed (`settle`, log entry 7). -/

open Sys2Proof Sys2Proof.Machine

/-! ### The machine -/

/-- The command at the front of the queue is run on the queue's rest (the queue: model's choice, log entry 1). -/
def Obligations.StepRunsTheFrontCommand : Prop :=
  ∀ (c : Instr) (rest : List Instr) (s : State),
    step { s with pending := c :: rest } = exec c { s with pending := rest }

/-- Every command answers a next state, and leaves the queue to the step (the queue is the model's own, log entry 1; that
POWER_ON_RESET leaves it too is the model's choice, log entry 27). -/
def Obligations.EveryCommandAnswersANextState : Prop :=
  ∀ (c : Instr) (s : State), ∃ t : State, exec c s = .next t ∧ t.pending = s.pending

/-- ALM follows its two conditions (R101) through every step: the invariant, and the conditions it names. -/
def Obligations.EveryStepKeepsAlmRight : Prop :=
  (∀ s t : State, AlmHolds s → step s = .next t → AlmHolds t) ∧
  (∀ s : State, AlmHolds s ↔ (s.dev.trig.alm = true ↔
    (∃ i : LineId, s.dev.lines[i].binding ≠ none ∧
      (s.dev.lines[i].band = .alarm ∨ s.dev.lines[i].band = .critical)) ∨
    ∃ e : EntryId, s.dev.trig.entries[e].action ≠ .report ∧
      (s.dev.trig.entries[e].status = .pending ∨ s.dev.trig.entries[e].status = .awaitingAck)))

/-- No step takes a queue, a list or a count past its bound: the invariant that every step keeps, and the bounds it
gives the lists: 16 tend requests (R52), 32 polls (R129), 12 trigger actions (R91), 48 frames of the STATION source
(R78, R146). -/
def Obligations.EveryStepKeepsTheQueuesWithin : Prop :=
  (∀ s t : State, QueuesWithin s → step s = .next t → QueuesWithin t) ∧
  (∀ s : State, QueuesWithin s →
    s.dev.quay.events.length ≤ 16 ∧ s.dev.quay.replies.length ≤ 4 ∧ s.dev.quay.rxBuffer.length ≤ 4 ∧
    s.dev.bridge.posted.length ≤ 8 ∧ s.dev.tend.length ≤ 16 ∧ s.dev.scan.pollList.length ≤ 32 ∧
    s.dev.trig.actions.length ≤ 12 ∧ s.dev.bus.stationSource.length ≤ 48 ∧ s.dev.bus.pollRun ≤ 4 ∧
    ∀ st : StationId, s.dev.stations[st].missed ≤ 15)

/-- Both invariants hold in the machine right after reset, and no command waits there (the queue and its being empty
at reset are the model's choice, log entry 1). -/
def Obligations.InvariantsHoldAtReset : Prop :=
  AlmHolds State.reset ∧ QueuesWithin State.reset ∧ State.reset.pending = []

/-- The power-on values of every block, in State.reset and after POWER_ON_RESET from any state, where each debounced
level is its input's level (R86). The level of the pins at reset, the pins that POWER_ON_RESET leaves and the counter of
free values are the model's own (log entries 9, 19, 27). -/
def Obligations.ResetHoldsThePowerOnValues : Prop :=
  (∀ i : LineId, State.reset.dev.lines[i] =
    { config :=
        { slack := 200, low := 1500, high := 2800, alarm := 4000, critical := 5500, hyst := 100, persistence := 3,
          criticalCount := 2, zero := 0, span := 256, shift := 2, cable := .none, stow := 200, minLength := 500,
          maxLength := 6000, tendStep := 20, runOutTime := 60, rewindTime := 120, lockTime := 50, releaseTime := 30,
          divisor := 0 }
      binding := none, state := .unassigned, owner := .quay, resync := false, cause := none, lastRaw := none,
      tension := 0, filtered := 0, seeded := false, band := .working, candidate := none, persistCount := 0,
      criticalRun := 0, sensor := .ok, pollCount := 0, length := none, latch := none, brake := none, motion := none,
      lastAction := none, triggerInFlight := none, lengthLimit := false, telemetryCount := 0 }) ∧
  (∀ st : StationId, State.reset.dev.stations[st] =
    { power := .off, powerGood := none, mask := .global, presence := .absent, enabled := true, parked := false,
      driveA := .ok, driveB := .ok, resetting := false, outcome := none, missed := 0, missedLimit := 3,
      flags := { presence := false, enable := false, park := false, fault := false, reset := false } }) ∧
  (∀ k : SlotId, State.reset.dev.bridge.slots[k] =
    { state := .free, command := none, attempts := 0, lastAnswer := none, action := none, actionTimer := none,
      discardTimer := none, result := none }) ∧
  State.reset.dev.bridge.posted = [] ∧ State.reset.dev.bridge.retries = [] ∧ State.reset.dev.bridge.nextOrder = 0 ∧
  State.reset.dev.tend = [] ∧
  (∀ e : EntryId, State.reset.dev.trig.entries[e] =
    { source := .software, enabled := false, mode := .edge, polarity := .activeHigh, action := .report,
      target := .lineSet 0, status := .idle, edgeRef := false, succeeded := 0, failed := 0 }) ∧
  State.reset.dev.trig.actions = [] ∧ State.reset.dev.trig.alm = false ∧
  (∀ i : LineId, State.reset.dev.trig.releaseTimers[i] = none) ∧
  (∀ st : StationId, State.reset.dev.trig.stationLost[st] = false) ∧
  (∀ n : InputId, State.reset.dev.trig.inputs[n] = { pin := .high, debounced := .high, stability := none }) ∧
  State.reset.dev.scan.config = { mode := .off, target := 0, scanSet := 0, prioritySet := 0, interval := 10 } ∧
  State.reset.dev.scan.pending = none ∧ State.reset.dev.scan.intervalTimer = none ∧
  State.reset.dev.scan.sweep = none ∧ State.reset.dev.scan.sweepDue = false ∧ State.reset.dev.scan.pointer = 15 ∧
  State.reset.dev.scan.pollList = [] ∧ (∀ i : LineId, State.reset.dev.scan.followUp[i] = none) ∧
  (∀ st : StationId, State.reset.dev.scan.probe[st] = none) ∧
  State.reset.dev.bus.engine = .idle ∧ State.reset.dev.bus.exchange = none ∧ State.reset.dev.bus.window = none ∧
  State.reset.dev.bus.response = none ∧ State.reset.dev.bus.observer = .foreign true ∧
  State.reset.dev.bus.rotation = [.posted, .confirmed, .tend, .station] ∧ State.reset.dev.bus.pollRun = 0 ∧
  State.reset.dev.bus.stationSource = [] ∧
  (∀ st : StationId, State.reset.dev.bus.nextAction[st] = 0 ∧ State.reset.dev.hold[st] = none) ∧
  State.reset.dev.quay.link =
    { silence := 0, discard := 10, hold := 6, window := 4, retry := 3, powerGood := 1 } ∧
  State.reset.dev.quay.receiver = .discarding ∧ State.reset.dev.quay.rxBuffer = [] ∧
  State.reset.dev.quay.replies = [] ∧ State.reset.dev.quay.resetAwaiting = false ∧
  State.reset.dev.quay.events = [] ∧ State.reset.dev.quay.overrun = false ∧
  (∀ i : LineId, State.reset.dev.quay.telemetry[i] = { sample := none, fresh := false }) ∧
  State.reset.dev.quay.lastTelemetry = 15 ∧ State.reset.dev.quay.silenceTimer = none ∧
  State.reset.dev.quay.hostSilent = false ∧ State.reset.dev.quay.transmitter = none ∧
  ∀ s : State, ∃ t : State, exec .powerOnReset s = .next t ∧ t.pending = s.pending ∧
    t.dev.quay = State.reset.dev.quay ∧ t.dev.lines = State.reset.dev.lines ∧ t.dev.tend = [] ∧
    t.dev.bridge = State.reset.dev.bridge ∧ t.dev.scan = State.reset.dev.scan ∧ t.dev.bus = State.reset.dev.bus ∧
    t.dev.stations = State.reset.dev.stations ∧ t.dev.hold = State.reset.dev.hold ∧
    t.dev.trig = { State.reset.dev.trig with inputs := t.dev.trig.inputs } ∧
    (∀ n : InputId, t.dev.trig.inputs[n] =
      { pin := s.dev.trig.inputs[n].pin, debounced := s.dev.trig.inputs[n].pin, stability := none }) ∧
    t.dev.freeCount = s.dev.freeCount

/-! ### Up-link -/

/-- The event queue's policy at an arrival (R170), the order in which events leave, the overrun mark's life, and the
severity of every event, by which the policy decides (the table of R171). -/
def Obligations.EventQueuePolicy : Prop :=
  (∀ (q : List Event) (overrun : Bool) (e : Event), q.length < 16 → enterEvent q overrun e = (q ++ [e], overrun)) ∧
  (∀ (q : List Event) (overrun : Bool) (e : Event), q.length = 16 → e.severity ≠ .alarm →
    enterEvent q overrun e = (q, overrun)) ∧
  (∀ (before after : List Event) (old e : Event) (overrun : Bool), (before ++ old :: after).length = 16 →
    (∀ x ∈ before, x.severity = .alarm) → old.severity ≠ .alarm → e.severity = .alarm →
    enterEvent (before ++ old :: after) overrun e = (before ++ after ++ [e], overrun)) ∧
  (∀ (q : List Event) (overrun : Bool) (e : Event), q.length = 16 → (∀ x ∈ q, x.severity = .alarm) →
    e.severity = .alarm → enterEvent q overrun e = (q, true)) ∧
  (∀ (q : List Event) (overrun : Bool) (e : Event), q.length ≤ 16 →
    (enterEvent q overrun e).1.length ≤ 16 ∧ (overrun = true → (enterEvent q overrun e).2 = true)) ∧
  (∀ (d : Device) (e : Event), d.quay.transmitter.isSome →
    d.queueEvent e = { d with quay := { d.quay with
      events := (enterEvent d.quay.events d.quay.overrun e).1,
      overrun := (enterEvent d.quay.events d.quay.overrun e).2 } }) ∧
  (∀ (q : QuayPort) (e : Event) (es : List Event), q.transmitter = none → q.replies = [] → q.events = e :: es →
    q.startNext = { q with events := es, overrun := false, transmitter := some (.event e q.overrun) }) ∧
  (∀ e : Event, e.severity = match e with
    | .bandChange _ _ entered _ _ =>
      if entered = .high ∨ entered = .alarm ∨ entered = .critical then .warning else .info
    | .critical .. | .sensorOpen .. | .triggerFired .. | .lineFault .. | .hostSilent .. => .alarm
    | .sensorRestored .. | .localTaken .. | .localReturned .. | .scanDone .. => .info
    | .lengthLimit .. | .tendUndelivered .. | .postedUndelivered .. | .completionDiscarded .. | .scanOverrun .. => .warning
    | .triggerDelivered _ _ _ failed => if 0 < failed then .alarm else .info
    | .stationChange _ newly .. => if newly.enable = true then .alarm else .info)

/-- The up-link arbiter: one frame at a time, a reply before an event before telemetry; a reply joins the tail of its
queue, an event enters its own (R170), and an idle transmitter takes what comes at once
(model's choice, the moment an idle transmitter takes: log entry 6). The characters of each frame (R159, R166, R171, R173):
the outer layout with its CRC-16 (R160), the payloads, the kind, subject and data of every event, and the codes of the
values in them (the readings of R159: model's choices, log entries 11, 12, 13; 'absent' is not counted among a field's
values, log entry 10). -/
def Obligations.UplinkArbiterOrder : Prop :=
  (∀ (q : QuayPort) (f : UplinkFrame), q.transmitter = some f → q.startNext = q) ∧
  (∀ (q : QuayPort) (r : Reply) (rs : List Reply), q.transmitter = none → q.replies = r :: rs →
    q.startNext = { q with replies := rs, transmitter := some (.reply r) }) ∧
  (∀ (q : QuayPort) (e : Event) (es : List Event), q.transmitter = none → q.replies = [] → q.events = e :: es →
    q.startNext = { q with events := es, overrun := false, transmitter := some (.event e q.overrun) }) ∧
  (∀ (q : QuayPort) (i : LineId) (x : Sample), q.transmitter = none → q.replies = [] → q.events = [] →
    q.telemetry[i].fresh = true → q.telemetry[i].sample = some x →
    (∀ j : LineId, q.telemetry[j].fresh = true → (i - q.lastTelemetry - 1).val ≤ (j - q.lastTelemetry - 1).val) →
    q.startNext = { q with
      telemetry := put q.telemetry i { sample := some x, fresh := false }, lastTelemetry := i,
      transmitter := some (.telemetry x) }) ∧
  (∀ q : QuayPort, q.transmitter = none → q.replies = [] → q.events = [] →
    (∀ j : LineId, q.telemetry[j].fresh = false) → q.startNext = q) ∧
  (∀ (d : Device) (r : Reply), d.quay.transmitter.isSome →
    d.pushReply r = { d with quay := { d.quay with replies := d.quay.replies ++ [r] } }) ∧
  (∀ (d : Device) (r : Reply), d.quay.transmitter = none → d.quay.replies = [] →
    d.pushReply r = { d with quay := { d.quay with transmitter := some (.reply r) } }) ∧
  (∀ (d : Device) (e : Event), d.queueEvent e = { d with quay := { d.quay with
    events := (enterEvent d.quay.events d.quay.overrun e).1,
    overrun := (enterEvent d.quay.events d.quay.overrun e).2 }.startNext }) ∧
  -- the outer layout and the payloads
  (∀ (kind tag : Byte) (p : List Byte), let body := kind :: tag :: BitVec.ofNat 8 p.length :: p
    quayBytes kind tag p = body ++ [(crc16 body).extractLsb' 8 8, (crc16 body).extractLsb' 0 8]) ∧
  crc16 [] = 0xFFFF ∧
  (∀ (bs : List Byte) (b : Byte), crc16 (bs ++ [b]) = [7, 6, 5, 4, 3, 2, 1, 0].foldl
    (fun (r : BitVec 16) n => if r.msb = b.getLsbD n then r <<< 1 else (r <<< 1) ^^^ 0x1021) (crc16 bs)) ∧
  (∀ r : Reply, (UplinkFrame.reply r).bytes =
    quayBytes 0x90 r.tag ([codeStatus r.status, codeHostKind r.kind, r.code] ++ r.data)) ∧
  (∀ (e : Event) (overrun : Bool), (UplinkFrame.event e overrun).bytes =
    quayBytes 0xA0 0 ([e.kindCode, codeSeverity e.severity, codeMark overrun] ++ e.subject ++ e.data)) ∧
  (∀ x : Sample, (UplinkFrame.telemetry x).bytes =
    quayBytes 0xB0 0 ([idByte x.line, codeKind x.kind] ++ byte2 x.raw ++ byte2 x.tension ++ byte2 x.filtered ++
      [codeBand x.band] ++ byte2 x.length ++ [codeLatch x.latch, codeMotion x.motion])) ∧
  -- the kind, the subject and the data of an event
  (∀ e : Event, e.kindCode = match e with
    | .bandChange .. => 0x01 | .critical .. => 0x02 | .sensorOpen .. => 0x03 | .sensorRestored .. => 0x04
    | .lengthLimit .. => 0x05 | .tendUndelivered .. => 0x06 | .postedUndelivered .. => 0x07
    | .completionDiscarded .. => 0x08 | .triggerFired .. => 0x09 | .triggerDelivered .. => 0x0A
    | .stationChange .. => 0x0B | .localTaken .. => 0x0C | .localReturned .. => 0x0D | .scanDone .. => 0x0E
    | .scanOverrun .. => 0x0F | .lineFault .. => 0x10 | .hostSilent .. => 0x11) ∧
  (∀ e : Event, e.subject = match e with
    | .bandChange i .. | .critical i .. | .sensorOpen i .. | .sensorRestored i .. | .lengthLimit i ..
    | .tendUndelivered i .. | .postedUndelivered i .. | .completionDiscarded i .. | .lineFault i .. => [1, idByte i]
    | .stationChange st .. | .localReturned st .. => [2, idByte st]
    | .localTaken (some st) .. => [2, idByte st]
    | .localTaken none .. => [2, 31]
    | .triggerFired n .. | .triggerDelivered n .. => [3, BitVec.ofNat 8 n.val]
    | .scanDone .. | .scanOverrun .. | .hostSilent .. => [0, 0]) ∧
  (∀ e : Event, e.data = match e with
    | .bandChange _ left entered f t => [codeBand left, codeBand entered] ++ byte2 f ++ byte2 t
    | .critical _ t c => byte2 t ++ byte2 c
    | .sensorOpen _ cable raw => [codeCable cable] ++ byte2 raw
    | .sensorRestored _ raw => byte2 raw
    | .lengthLimit _ dir length limit step => [codeBusVerb dir.bus] ++ byte2 length ++ byte2 limit ++ byte2 step
    | .tendUndelivered _ dir step n answer => [codeBusVerb dir.bus] ++ byte2 step ++ [BitVec.ofNat 8 n, codeAnswer answer]
    | .postedUndelivered _ st v arg n why =>
      [idByte st, codeBusVerb v.bus] ++ byte2 arg ++ [BitVec.ofNat 8 n, codeReason why]
    | .completionDiscarded _ v tag res => [codeBusVerb v.bus, tag, codeResult res]
    | .triggerFired _ source a n => codeSource source ++ [codeAction a, BitVec.ofNat 8 n]
    | .triggerDelivered _ a ok bad => [codeAction a, BitVec.ofNat 8 ok, BitVec.ofNat 8 bad]
    | .stationChange _ newly all p presence enabled parked fault resetting =>
      [newly.byte, all.byte, codePower p, codePresence presence, codeYes enabled, codeYes parked, codeYes fault,
        codeResetting resetting]
    | .localTaken _ ls v => wordBytes ls ++ [v]
    | .localReturned _ cause ls => [codeReturn cause] ++ wordBytes ls
    | .scanDone m sent received => [codeScanMode m, BitVec.ofNat 8 sent, BitVec.ofNat 8 received]
    | .scanOverrun m n => [codeScanMode m, BitVec.ofNat 8 n]
    | .lineFault _ cause => [codeCause cause]
    | .hostSilent silence => byte2 silence) ∧
  -- the numbers and the codes
  (∀ n : Nat, n < 65536 → byte2 n = [BitVec.ofNat 8 (n / 256), BitVec.ofNat 8 (n % 256)]) ∧
  (∀ w : Word16, wordBytes w = [w.extractLsb' 8 8, w.extractLsb' 0 8]) ∧
  (∀ i : Fin 16, idByte i = BitVec.ofNat 8 (i.val + 1)) ∧
  (∀ f : ChangeFlags, f.byte = BitVec.ofNat 8 ((if f.presence then 1 else 0) + (if f.enable then 2 else 0) +
    (if f.park then 4 else 0) + (if f.fault then 8 else 0) + (if f.reset then 16 else 0))) ∧
  (∀ src : TriggerSource, codeSource src = match src with
    | .lineCritical i => [0, idByte i] | .groupAlarm g => [1, BitVec.ofNat 8 g.val]
    | .input n => [2, BitVec.ofNat 8 n.val] | .hostSilent => [3, 0] | .stationLost st => [4, idByte st]
    | .software => [5, 0]) ∧
  [ReplyStatus.ok, .clamped, .wait, .result, .full, .lineBusy, .badState, .notAssigned, .localControl,
    .stationUnavailable, .stationBusy, .badArgument, .scanBusy, .unknownOperation].map codeStatus =
    [0x00, 0x01, 0x02, 0x03, 0x10, 0x11, 0x12, 0x13, 0x14, 0x15, 0x16, 0x20, 0x21, 0x22] ∧
  [HostKind.lineCommand, .management].map codeHostKind = [0x10, 0x20] ∧
  [BusVerb.poll, .runOut, .lock, .release, .rewind, .heave, .payout, .hold, .stop, .park, .unpark, .reset,
    .handBack].map codeBusVerb = [0, 1, 2, 3, 4, 5, 6, 7, 8, 9, 10, 11, 12] ∧
  [Severity.info, .warning, .alarm].map codeSeverity = [0, 1, 2] ∧
  [true, false].map codeMark = [0, 1] ∧ [true, false].map codeYes = [1, 0] ∧
  [Band.slack, .low, .working, .high, .alarm, .critical].map codeBand = [0, 1, 2, 3, 4, 5] ∧
  [CableCheck.none, .high, .low].map codeCable = [0, 1, 2] ∧
  [SampleKind.normal, .checkHigh, .checkLow].map codeKind = [0, 1, 2] ∧
  [Latch.open_, .closed, .moving, .jammed].map codeLatch = [0, 1, 2, 3] ∧
  [DrumMotion.stopped, .heaving, .paying].map codeMotion = [0, 1, 2] ∧
  [LastAnswer.nak, .silence].map codeAnswer = [0, 1] ∧
  [UndeliveredReason.nak, .noResponse, .stationLost, .powerOff, .unassigned].map codeReason = [0, 1, 2, 3, 4] ∧
  [SlotResult.done, .failed, .actionTimeout, .noResponse, .refused, .preempted, .aborted].map codeResult =
    [0, 1, 2, 3, 4, 5, 6] ∧
  [TriggerAction.report, .hold, .slacken, .release, .stopAll].map codeAction = [0, 1, 2, 3, 4] ∧
  [Power.off, .powering, .on].map codePower = [0, 1, 2] ∧ [Presence.absent, .present].map codePresence = [0, 1] ∧
  [false, true].map codeResetting = [0, 1] ∧ [ReturnCause.timeout, .handBack].map codeReturn = [0, 1] ∧
  [ScanMode.off, .single, .repeat_, .sweep, .repeatSweep, .prioritySweep].map codeScanMode = [0, 1, 2, 3, 4, 5] ∧
  [FaultCause.stationLost, .latchJammed, .commandFailed, .resync].map codeCause = [0, 1, 2, 3]

/-- The end of the frame being sent: the next is chosen, a frame that waited for room is processed, and the end of the
SOFT RESET reply is the reset's moment. With nothing being sent the command changes nothing (log entry 3). -/
def Obligations.UplinkFrameEnds : Prop :=
  ∀ s : State,
    (s.dev.quay.transmitter = none → exec .uplinkFrameSent s = .next (s.onDevice Device.settle)) ∧
    (∀ f : UplinkFrame, s.dev.quay.transmitter = some f → s.dev.quay.rxBuffer = [] → s.dev.quay.resetAwaiting = false →
      exec .uplinkFrameSent s =
        .next (s.onDevice fun d => { d with quay := { d.quay with transmitter := none }.startNext }.settle)) ∧
    (∀ (r : Reply) (f : HostFrame), s.dev.quay.transmitter = some (.reply r) → s.dev.quay.rxBuffer = [f] →
      s.dev.quay.resetAwaiting = false → s.dev.quay.replies.length = 4 →
      exec .uplinkFrameSent s =
        .next (s.onDevice fun d =>
          ({ d with quay := { ({ d.quay with transmitter := none } : QuayPort).startNext with rxBuffer := [] } }.run
            f.tag f.request).settle)) ∧
    (∀ r : Reply, s.dev.quay.transmitter = some (.reply r) → s.dev.quay.replies = [] →
      s.dev.quay.resetAwaiting = true →
      exec .uplinkFrameSent s = .next (s.onDevice fun d => d.softReset.settle))

/-! ### Receiving -/

/-- A request that finds the reply queue full, or the receive buffer full, is lost without a reply; one that finds
room while a reset awaits its reply waits in the receive buffer (R164, R175); on a ready part the request is carried out.
In each case its frame has been heard by the silence monitor (R174). -/
def Obligations.RequestsWaitOrAreLost : Prop :=
  ∀ (c : Instr) (tag : Byte) (r : Request) (s₀ : State), hostRequest c = some (tag, r) → let s := s₀.heard
    (4 ≤ s.dev.quay.replies.length → exec c s₀ = .next (s.onDevice Device.settle)) ∧
    (s.dev.quay.resetAwaiting = true → s.dev.quay.replies.length < 4 → 4 ≤ s.dev.quay.rxBuffer.length →
      exec c s₀ = .next (s.onDevice Device.settle)) ∧
    (s.dev.quay.resetAwaiting = true → s.dev.quay.replies.length < 4 → s.dev.quay.rxBuffer.length < 4 →
      exec c s₀ = .next (s.onDevice fun d =>
        { d with quay := { d.quay with rxBuffer := d.quay.rxBuffer ++ [r.frame tag] } }.settle)) ∧
    (s₀.dev.ready → exec c s₀ = .next (s.onDevice fun d => d.run tag r))

/-- Every request reads back from the characters of its frame, with every field at every value. -/
def Obligations.EveryRequestReadsBackFromItsFrame : Prop :=
  ∀ (tag : Byte) (r : Request), r.canonical → r.payload.length ≤ 240 →
    HostFrame.read (r.frame tag).bytes = some (r.frame tag) ∧ (r.frame tag).request = r

/-- The receiver (R163): the characters of a host frame that arrive in IDLE are a valid host frame, which the silence
monitor takes before it is taken in; a frame that fails its check, or of another kind, or with a payload length above
240, sends the receiver to DISCARDING, where characters are ignored; a quiet line brings it to IDLE
(model's choice, characters one by one: log entry 5). What taking a frame in is, and when what waits is processed
(R164). -/
def Obligations.ReceiverFramesCharacters : Prop :=
  (∀ (f : HostFrame) (s : State), f.payload.length ≤ 240 → s.dev.quay.receiver = .idle →
    exec (.hostFrameReceived f.bytes) s = .next (s.onDevice fun d => ((d.hostHeard.takeIn f).drain).settle)) ∧
  (∀ (kind tag n : Byte) (rest : List Byte) (s : State), s.dev.quay.receiver = .idle → n.toNat ≤ 240 →
    rest.length = n.toNat + 2 → HostFrame.read (kind :: tag :: n :: rest) = none →
    exec (.hostFrameReceived (kind :: tag :: n :: rest)) s =
      .next (s.onDevice fun d => { d with quay := { d.quay with receiver := .discarding } }.settle)) ∧
  (∀ (cs : List Byte) (s : State), s.dev.quay.receiver = .discarding →
    exec (.hostFrameReceived cs) s = .next (s.onDevice Device.settle)) ∧
  (∀ s : State, exec .receiverLineQuiet s =
    .next (s.onDevice fun d => { d with quay := { d.quay with receiver := .idle } }.settle)) ∧
  (∀ (kind tag n : Byte) (s : State), s.dev.quay.receiver = .idle → 240 < n.toNat →
    exec (.payloadLengthAbove240 kind tag n) s =
      .next (s.onDevice fun d => { d with quay := { d.quay with receiver := .discarding } }.settle)) ∧
  (∀ (kind tag n : Byte) (s : State), s.dev.quay.receiver = .discarding →
    exec (.payloadLengthAbove240 kind tag n) s = .next (s.onDevice Device.settle)) ∧
  (∀ (d : Device) (f : HostFrame), let q := d.quay
    (4 ≤ q.replies.length ∨ 4 ≤ q.rxBuffer.length → d.takeIn f = d) ∧
    (q.replies.length < 4 → q.rxBuffer.length < 4 →
      d.takeIn f = { d with quay := { q with rxBuffer := q.rxBuffer ++ [f] } })) ∧
  (∀ d : Device, let q := d.quay
    (q.rxBuffer = [] ∨ 4 ≤ q.replies.length ∨ q.resetAwaiting = true → d.drain = d) ∧
    ∀ f : HostFrame, q.rxBuffer = [f] → q.replies.length < 4 → q.resetAwaiting = false →
      d.drain = { d with quay := { q with rxBuffer := [] } }.run f.tag f.request)

/-- The silence monitor (R87, R174): the expiry makes HOST_SILENT true, queues one event and stops the timer; a valid
frame restarts the timer at the silence time, or leaves it stopped at a silence time of 0, and makes HOST_SILENT false;
the trigger entries take a change. The expiry acts for every time left (model's choice, log entry 2), a stopped timer
changes nothing (log entry 3), and the event is queued before the entries take the change, an order that R174 leaves open
(log entry 32). -/
def Obligations.SilenceMonitor : Prop :=
  (∀ (s : State) (ms : Nat), s.dev.quay.silenceTimer = some ms →
    exec .silenceTimerExpires s = .next (s.onDevice fun d =>
      (({ d with quay := { d.quay with silenceTimer := none, hostSilent := true } }.queueEvent
        (.hostSilent d.quay.link.silence)).takeConditions).settle)) ∧
  (∀ s : State, s.dev.quay.silenceTimer = none →
    exec .silenceTimerExpires s = .next (s.onDevice Device.settle)) ∧
  (∀ d : Device, d.quay.hostSilent = false →
    d.hostHeard = { d with quay := { d.quay with
      silenceTimer := if d.quay.link.silence = 0 then none else some (d.quay.link.silence * 1000) } }) ∧
  (∀ d : Device, d.quay.hostSilent = true →
    d.hostHeard = { d with quay := { d.quay with
      silenceTimer := if d.quay.link.silence = 0 then none else some (d.quay.link.silence * 1000)
      hostSilent := false } }.takeConditions) ∧
  (∀ d : Device, d.hostHeard.quay.hostSilent = false)

/-- Frames with no meaning are answered and change nothing else: an undefined verb or a LINE COMMAND of a wrong length
(R60), an empty MANAGEMENT payload and an operation code outside the table (R165). A reply to a frame with no verb or
code carries a free value there (log entry 9). -/
def Obligations.FramesWithNoMeaning : Prop :=
  (∀ (tag l v hi lo : Byte) (s₀ : State), s₀.dev.ready → let s := s₀.heard
    lineVerbOfCode v = none →
    exec (.undefinedVerb tag [l, v, hi, lo]) s₀ = .next (s.answered
      { tag := tag, status := .badArgument, kind := .lineCommand, code := v, data := [] } s.dev)) ∧
  (∀ (tag l v : Byte) (rest : List Byte) (s₀ : State), s₀.dev.ready → let s := s₀.heard
    rest.length ≠ 2 →
    exec (.undefinedVerb tag (l :: v :: rest)) s₀ = .next (s.answered
      { tag := tag, status := .badArgument, kind := .lineCommand, code := v, data := [] } s.dev)) ∧
  (∀ (tag : Byte) (p : List Byte) (s₀ : State), s₀.dev.ready → let s := s₀.heard
    p.length < 2 →
    exec (.undefinedVerb tag p) s₀ = .next (s.onDevice fun d =>
      { d.pushReply { tag := tag, status := .badArgument, kind := .lineCommand,
                      code := Config.absentCode d.freeCount, data := [] } with
        freeCount := d.freeCount + 1 }.settle)) ∧
  (∀ (tag : Byte) (s₀ : State), s₀.dev.ready → let s := s₀.heard
    exec (.emptyManagementPayload tag) s₀ = .next (s.onDevice fun d =>
      { d.pushReply { tag := tag, status := .badArgument, kind := .management,
                      code := Config.absentCode d.freeCount, data := [] } with
        freeCount := d.freeCount + 1 }.settle)) ∧
  (∀ (tag code : Byte) (fields : List Byte) (s₀ : State), s₀.dev.ready → let s := s₀.heard
    code.toNat ∉ operationCodes →
    exec (.unknownOperation tag code fields) s₀ = .next (s.opAnswer code tag s.dev .unknownOperation))

/-! ### Line commands -/

/-- TEND ON (R46). -/
def Obligations.TendOnChecksAndEffect : Prop :=
  ∀ (tag line : Byte) (arg : Word16) (s₀ : State), s₀.dev.ready → let s := s₀.heard
    exec (.tendOn tag line arg) s₀ = .next (
      match id16 line with
      | none => s.lineAnswer .tendOn tag s.dev .badArgument
      | some i =>
        if s.dev.lines[i].binding = none then s.lineAnswer .tendOn tag s.dev .notAssigned
        else if s.dev.lines[i].owner ≠ .quay then s.lineAnswer .tendOn tag s.dev .localControl
        else if s.dev.eligible i = false then s.lineAnswer .tendOn tag s.dev .stationUnavailable
        else if (s.dev.liveSlot i).isSome then s.lineAnswer .tendOn tag s.dev .lineBusy
        else if s.dev.lines[i].state ≠ .locked ∨ s.dev.lines[i].band = .critical ∨ s.dev.lines[i].sensor = .open_ then
          s.lineAnswer .tendOn tag s.dev .badState
        else
          s.lineAnswer .tendOn tag
            (s.dev.setLine i { s.dev.lines[i] with state := .tending, lengthLimit := false }) .ok)

/-- TEND OFF (R47): the line is LOCKED and its tend request entry is gone; the length-limit flag stays. -/
def Obligations.TendOffChecksAndEffect : Prop :=
  ∀ (tag line : Byte) (arg : Word16) (s₀ : State), s₀.dev.ready → let s := s₀.heard
    exec (.tendOff tag line arg) s₀ = .next (
      match id16 line with
      | none => s.lineAnswer .tendOff tag s.dev .badArgument
      | some i =>
        if s.dev.lines[i].binding = none then s.lineAnswer .tendOff tag s.dev .notAssigned
        else if s.dev.lines[i].owner ≠ .quay then s.lineAnswer .tendOff tag s.dev .localControl
        else if s.dev.lines[i].state ≠ .tending then s.lineAnswer .tendOff tag s.dev .badState
        else
          s.lineAnswer .tendOff tag
            ((s.dev.setLine i { s.dev.lines[i] with state := .locked }).removeTend i) .ok)

/-- HOLD, HEAVE and PAYOUT (R61, R62, R17). -/
def Obligations.PostedCommandsChecksAndEffect : Prop :=
  ∀ (v : PostedVerb) (tag line : Byte) (arg : Word16) (s₀ : State), s₀.dev.ready → let s := s₀.heard
    exec (v.command tag line arg) s₀ = .next (
      match id16 line with
      | none => s.lineAnswer v.verb tag s.dev .badArgument
      | some i =>
        match s.dev.lines[i].binding with
        | none => s.lineAnswer v.verb tag s.dev .notAssigned
        | some b =>
          let r := s.dev.lines[i]
          if r.owner ≠ .quay then s.lineAnswer v.verb tag s.dev .localControl
          else if s.dev.stations[b.station].available = false then s.lineAnswer v.verb tag s.dev .stationUnavailable
          else if ¬(r.state = .locked ∨ (v = .hold ∧ r.state = .tending)) then s.lineAnswer v.verb tag s.dev .badState
          else if 8 ≤ s.dev.bridge.posted.length then s.lineAnswer v.verb tag s.dev .full
          else
            let sent := if v = .hold then 0 else if arg.toNat = 0 then 1 else arg.toNat
            let p : PostedEntry :=
              { line := i, station := b.station, drum := b.drum, verb := v, arg := sent,
                order := s.dev.bridge.nextOrder, sent := false, attempts := 0 }
            let d := { s.dev with bridge := { s.dev.bridge with
              posted := s.dev.bridge.posted ++ [p], nextOrder := s.dev.bridge.nextOrder + 1 } }
            let d := if r.state = .tending then (d.setLine i { r with state := .locked }).removeTend i else d
            if v ≠ .hold ∧ arg.toNat = 0 then s.lineAnswer v.verb tag d .clamped [0, 1]
            else s.lineAnswer v.verb tag d .ok)

/-- A confirmed request that matches a slot in use is answered from it, before any other check; RESULT frees it (R67),
the action number 255 where no frame was sent (R166). The result has no presence byte and the attempt count one
byte (model's choices, log entries 27, 12). -/
def Obligations.ConfirmedRepeatIsAnsweredFromItsSlot : Prop :=
  ∀ (v : ConfirmedVerb) (tag line : Byte) (arg : Word16) (i : LineId) (k : SlotId) (s₀ : State),
    s₀.dev.ready → let s := s₀.heard
    id16 line = some i → s.dev.bridge.slots[k].holds i v tag arg = true →
    (∀ j : SlotId, j < k → s.dev.bridge.slots[j].holds i v tag arg = false) →
    exec (v.command tag line arg) s₀ = .next (
      let x := s.dev.bridge.slots[k]
      if x.live then s.lineAnswer v.verb tag s.dev .wait [codeSlotState x.state, BitVec.ofNat 8 x.attempts]
      else
        s.lineAnswer v.verb tag (s.dev.setSlot k {}) .result
          ((x.result.map codeResult).toList ++
            [match x.action with | some a => BitVec.ofNat 8 a.val | none => 255, BitVec.ofNat 8 x.attempts]))

/-- A confirmed request that matches no slot: the checks of R68 and the slot it fills (R68, R69); and the states in which
each confirmed verb is taken, passes through and ends (R12). BAD_ARGUMENT is R60, the data of the replies R166, with the
attempt count in one byte (model's choice, log entry 12). -/
def Obligations.ConfirmedCommandsChecksAndEffect : Prop :=
  (∀ (v : ConfirmedVerb) (tag line : Byte) (arg : Word16) (s₀ : State), s₀.dev.ready → let s := s₀.heard
      (∀ (i : LineId) (k : SlotId), id16 line = some i → s.dev.bridge.slots[k].holds i v tag arg = false) →
      exec (v.command tag line arg) s₀ = .next (
        match id16 line with
        | none => s.lineAnswer v.verb tag s.dev .badArgument
        | some i =>
          let r := s.dev.lines[i]
          if r.binding = none then s.lineAnswer v.verb tag s.dev .notAssigned
          else if r.owner ≠ .quay then s.lineAnswer v.verb tag s.dev .localControl
          else if s.dev.eligible i = false then s.lineAnswer v.verb tag s.dev .stationUnavailable
          else if (s.dev.liveSlot i).isSome then s.lineAnswer v.verb tag s.dev .lineBusy
          else if v.takenIn r.state = false then s.lineAnswer v.verb tag s.dev .badState
          else
            match s.dev.freeSlot with
            | none => s.lineAnswer v.verb tag s.dev .full
            | some k =>
              let sent := match v with
                | .runOut => if r.config.maxLength < arg.toNat then r.config.maxLength else arg.toNat
                | .rewind => r.config.stow
                | .lock | .release => 0
              let x : Slot :=
                { state := .queued
                  command := some { line := i, verb := v, tag := tag, requested := arg, sentArg := sent,
                                    prior := r.state, order := s.dev.bridge.nextOrder }
                  attempts := 0, lastAnswer := none, action := none, actionTimer := none, discardTimer := none,
                  result := none }
              let d := { s.dev with bridge := { s.dev.bridge with
                slots := put s.dev.bridge.slots k x, nextOrder := s.dev.bridge.nextOrder + 1 } }
              let d := d.setLine i { r with state := v.transitional }
              let d := if r.state = .tending then d.removeTend i else d
              if v = .runOut ∧ r.config.maxLength < arg.toNat then
                s.lineAnswer v.verb tag d .clamped (byte2 r.config.maxLength)
              else s.lineAnswer v.verb tag d .wait [1, 0])) ∧
  ((∀ st : LineState, ConfirmedVerb.runOut.takenIn st = true ↔ st = .stowed ∨ st = .released) ∧
    (∀ st : LineState, ConfirmedVerb.lock.takenIn st = true ↔ st = .ready ∨ st = .released) ∧
    (∀ st : LineState, ConfirmedVerb.release.takenIn st = true ↔ st = .locked ∨ st = .tending) ∧
    (∀ st : LineState, ConfirmedVerb.rewind.takenIn st = true ↔ st = .ready ∨ st = .released) ∧
    ConfirmedVerb.runOut.transitional = .runningOut ∧ ConfirmedVerb.runOut.target = .ready ∧
    ConfirmedVerb.lock.transitional = .locking ∧ ConfirmedVerb.lock.target = .locked ∧
    ConfirmedVerb.release.transitional = .releasing ∧ ConfirmedVerb.release.target = .released ∧
    ConfirmedVerb.rewind.transitional = .rewinding ∧ ConfirmedVerb.rewind.target = .stowed)

/-- What the end of a live slot does to its line, result by result (R13, R14, R15, R16, R9, R10), and that it leaves
every other line alone. -/
def Obligations.SlotResultsActOnTheirLine : Prop :=
  ∀ (d : Device) (k : SlotId) (c : SlotCommand) (res : SlotResult), d.bridge.slots[k].command = some c →
    d.bridge.slots[k].live = true →
    let r := d.lines[c.line]
    let r' := (d.endSlot k res).lines[c.line]
    let marked := if r.state = .fault then r else { r with resync := true }
    let restored := if c.prior = .tending ∧ (r.band = .critical ∨ r.sensor = .open_ ∨ r.owner = .localOwner)
      then LineState.locked else c.prior
    (res = .done → r' = if r.state = c.verb.transitional then { r with state := c.verb.target } else marked) ∧
    (res = .failed ∨ res = .actionTimeout ∨ res = .refused ∨ res = .noResponse →
      (r.state = c.verb.transitional →
        r' = { r with state := .fault, cause := some .commandFailed } ∧
        (d.endSlot k res).quay = (d.queueEvent (.lineFault c.line .commandFailed)).quay) ∧
      (r.state ≠ c.verb.transitional → r' = marked ∧ (d.endSlot k res).quay = d.quay)) ∧
    (res = .aborted ∨ res = .preempted →
      (d.bridge.slots[k].state = .queued →
        r' = if r.state = c.verb.transitional then { r with state := restored } else r) ∧
      (d.bridge.slots[k].state ≠ .queued → r' = { r with resync := true })) ∧
    (∀ j : LineId, j ≠ c.line → (d.endSlot k res).lines[j] = d.lines[j]) ∧
    (d.endSlot k res).bridge.slots[k] =
      { d.bridge.slots[k] with
        state := .complete, result := some res, actionTimer := none,
        discardTimer := some (d.quay.link.discard * 1000) } ∧
    (∀ j : SlotId, j ≠ k → (d.endSlot k res).bridge.slots[j] = d.bridge.slots[j])

/-! ### Management: lines -/

/-- ASSIGN LINE (R6) (model's choice, a reply behind the events of the same processing: log entry 6). -/
def Obligations.AssignLineChecksAndEffect : Prop :=
  ∀ (tag line station drum group : Byte) (s₀ : State), s₀.dev.ready → let s := s₀.heard
    exec (.assignLine tag line station drum group) s₀ = .next (
      match id16 line with
      | none => s.opAnswer 0x01 tag s.dev .badArgument
      | some i =>
        if s.dev.lines[i].state ≠ .unassigned then s.opAnswer 0x01 tag s.dev .badState
        else
          match id16 station, drumOfCode drum, idBelow 4 group with
          | some st, some dr, some g =>
            if (s.dev.lineAt st dr).isSome then s.opAnswer 0x01 tag s.dev .badArgument
            else
              let r : LineRecord :=
                { config := s.dev.lines[i].config, binding := some { station := st, drum := dr, group := g }
                  state := .fault, cause := some .resync, resync := true
                  owner := if s.dev.hold[st].isSome then .localOwner else .quay }
              s.opAnswer 0x01 tag (s.dev.setLine i r).takeConditions .ok
          | _, _, _ => s.opAnswer 0x01 tag s.dev .badArgument)

/-- UNASSIGN LINE (R7), and the removal of posted entries that it makes (R65) (model's choice, a reply behind the events of
the same processing: log entry 6). -/
def Obligations.UnassignLineChecksAndEffect : Prop :=
  (∀ (d : Device) (p : PostedEntry → Bool) (why : UndeliveredReason), let t := d.removePosted p why
    t.bridge = { d.bridge with posted := d.bridge.posted.filter fun y => !p y } ∧
    t.quay = (d.queueEvents ((d.bridge.posted.filter p).map fun (y : PostedEntry) =>
      .postedUndelivered y.line y.station y.verb y.arg y.attempts why)).quay ∧
    ((∀ y ∈ d.bridge.posted, p y = true → y.sent = false) → t.bus = d.bus) ∧
    (∀ x : Exchange, d.bus.exchange = some x → x.owner = .posted → (∃ y ∈ d.bridge.posted, p y = true ∧ y.sent = true) →
      t.bus = { d.bus with exchange := some { x with detached := true } }) ∧
    t.lines = d.lines ∧ t.tend = d.tend ∧ t.trig = d.trig ∧ t.stations = d.stations ∧ t.scan = d.scan) ∧
  ∀ (tag line : Byte) (s₀ : State), s₀.dev.ready → let s := s₀.heard
    exec (.unassignLine tag line) s₀ = .next (
      match id16 line with
      | none => s.opAnswer 0x02 tag s.dev .badArgument
      | some i =>
        let x := s.dev.lines[i].state
        if ¬(x = .stowed ∨ x = .ready ∨ x = .released ∨ x = .fault) then s.opAnswer 0x02 tag s.dev .badState
        else if (s.dev.liveSlot i).isSome ∨ s.dev.lines[i].triggerInFlight.isSome ∨
            (∃ r ∈ s.dev.trig.actions, ∃ t ∈ r.targets, t.line = i ∧ (t.state = .waiting ∨ t.state = .sent)) then
          s.opAnswer 0x02 tag s.dev .badState
        else
          let d := s.dev.setLine i { config := s.dev.lines[i].config }
          let d := d.removePosted (fun p => decide (p.line = i)) .unassigned
          let d := { d with quay := { d.quay with
            telemetry := put d.quay.telemetry i { d.quay.telemetry[i] with fresh := false } } }
          s.opAnswer 0x02 tag d.takeConditions .ok)

/-- LOAD ENVELOPE (R2, R3). -/
def Obligations.LoadEnvelopeChecksAndEffect : Prop :=
  ∀ (tag line : Byte) (sl lo hi al cr hy p n : Word16) (s₀ : State), s₀.dev.ready → let s := s₀.heard
    exec (.loadEnvelope tag line sl lo hi al cr hy p n) s₀ = .next (
      match id16 line with
      | none => s.opAnswer 0x03 tag s.dev .badArgument
      | some i =>
        if ¬(sl.toNat < lo.toNat ∧ lo.toNat < hi.toNat ∧ hi.toNat < al.toNat ∧ al.toNat < cr.toNat) then
          s.opAnswer 0x03 tag s.dev .badArgument
        else
          let hy' := min 4095 hy.toNat
          let p' := max 1 (min 15 p.toNat)
          let n' := max 1 (min 4 n.toNat)
          let r := s.dev.lines[i]
          let d := s.dev.setLine i
            { r with
              config := { r.config with
                slack := sl.toNat, low := lo.toNat, high := hi.toNat, alarm := al.toNat, critical := cr.toNat,
                hyst := hy', persistence := p', criticalCount := n' }
              candidate := none, persistCount := 0 }
          if hy' ≠ hy.toNat ∨ p' ≠ p.toNat ∨ n' ≠ n.toNat then
            s.opAnswer 0x03 tag d .clamped
              (line :: [sl, lo, hi, al, cr].flatMap wordBytes ++ byte2 hy' ++ byte2 p' ++ byte2 n')
          else s.opAnswer 0x03 tag d .ok)

/-- LOAD CALIBRATION (R2, R4): the sensor mark is set to OK when the cable check changes or is NONE, and a mark that was
OPEN then queues SENSOR_RESTORED, whose raw sample is a free value (log entry 9)
(model's choice, a reply behind the events of the same processing: log entry 6). -/
def Obligations.LoadCalibrationChecksAndEffect : Prop :=
  ∀ (tag line : Byte) (z sp k : Word16) (cable : Byte) (s₀ : State), s₀.dev.ready → let s := s₀.heard
    exec (.loadCalibration tag line z sp k cable) s₀ = .next (
      match id16 line, cableOfCode cable with
      | some i, some cc =>
        let z' := min 4095 z.toNat
        let sp' := max 1 (min 4095 sp.toNat)
        let k' := min 4 k.toNat
        let r := s.dev.lines[i]
        let c := { r.config with zero := z', span := sp', shift := k', cable := cc }
        let d :=
          if r.config.cable ≠ cc ∨ cc = .none then
            let d := s.dev.setLine i { r with config := c, seeded := false, sensor := .ok }
            if r.sensor = .open_ then
              { d.queueEvent (.sensorRestored i (Config.loadRestoredRaw s.dev.freeCount).toNat) with
                freeCount := s.dev.freeCount + 1 }
            else d
          else s.dev.setLine i { r with config := c, seeded := false }
        if z' ≠ z.toNat ∨ sp' ≠ sp.toNat ∨ k' ≠ k.toNat then
          s.opAnswer 0x04 tag d .clamped (line :: byte2 z' ++ byte2 sp' ++ byte2 k' ++ [cable])
        else s.opAnswer 0x04 tag d .ok
      | _, _ => s.opAnswer 0x04 tag s.dev .badArgument)

/-- LOAD LIMITS (R2, R5), with the recheck of the line's UNSENT tend entry (R54) (model's choice, a reply behind the
events of the same processing: log entry 6). -/
def Obligations.LoadLimitsChecksAndEffect : Prop :=
  ∀ (tag line : Byte) (st mn mx ts ro rw lk rl dv : Word16) (s₀ : State), s₀.dev.ready → let s := s₀.heard
    exec (.loadLimits tag line st mn mx ts ro rw lk rl dv) s₀ = .next (
      match id16 line with
      | none => s.opAnswer 0x05 tag s.dev .badArgument
      | some i =>
        if mx.toNat < mn.toNat then s.opAnswer 0x05 tag s.dev .badArgument
        else
          let near (w : Word16) := max 1 (min 255 w.toNat)
          let dv' := min 255 dv.toNat
          let r := s.dev.lines[i]
          let d := s.dev.setLine i
            { r with
              config := { r.config with
                stow := st.toNat, minLength := mn.toNat, maxLength := mx.toNat, tendStep := near ts,
                runOutTime := near ro, rewindTime := near rw, lockTime := near lk, releaseTime := near rl,
                divisor := dv' }
              lengthLimit := false, telemetryCount := 0 }
          let d := d.recheckTend i
          if near ts ≠ ts.toNat ∨ near ro ≠ ro.toNat ∨ near rw ≠ rw.toNat ∨ near lk ≠ lk.toNat ∨ near rl ≠ rl.toNat ∨
              dv' ≠ dv.toNat then
            s.opAnswer 0x05 tag d .clamped
              (line :: [st, mn, mx].flatMap wordBytes ++ byte2 (near ts) ++ byte2 (near ro) ++ byte2 (near rw)
                ++ byte2 (near lk) ++ byte2 (near rl) ++ byte2 dv')
          else s.opAnswer 0x05 tag d .ok)

/-- The four reads answer OK with the record as it stands and change nothing (R1, R83, R122, R168), and the data they give,
field by field in the order of the rules (R166) (model's choices, the layouts: log entry 14; codes and widths: log entries
10, 11, 12). -/
def Obligations.ReadsAnswerAndChangeNothing : Prop :=
  (∀ (tag line : Byte) (s₀ : State), s₀.dev.ready → let s := s₀.heard
    exec (.readLine tag line) s₀ = .next (
    match id16 line with
    | none => s.opAnswer 0x06 tag s.dev .badArgument
    | some i => s.opAnswer 0x06 tag s.dev .ok s.dev.lines[i].data)) ∧
  (∀ (tag entry : Byte) (s₀ : State), s₀.dev.ready → let s := s₀.heard
    exec (.readTrigger tag entry) s₀ = .next (
    match idBelow 12 entry with
    | none => s.opAnswer 0x11 tag s.dev .badArgument
    | some e => s.opAnswer 0x11 tag s.dev .ok
        (s.dev.trig.entries[e].data (s.dev.conditionOf s.dev.trig.entries[e])))) ∧
  (∀ (tag : Byte) (s₀ : State), s₀.dev.ready → let s := s₀.heard
    exec (.readScan tag) s₀ = .next (s.opAnswer 0x19 tag s.dev .ok s.dev.scan.data)) ∧
  (∀ (tag part : Byte) (s₀ : State), s₀.dev.ready → let s := s₀.heard
    exec (.readStatus tag part) s₀ = .next (
    if part = 0 then s.opAnswer 0x31 tag s.dev .ok s.dev.statusData
    else if part = 1 then s.opAnswer 0x31 tag s.dev .ok (([0, 1, 2, 3, 4, 5, 6, 7] : List StationId).flatMap s.dev.stationData)
    else if part = 2 then
      s.opAnswer 0x31 tag s.dev .ok (([8, 9, 10, 11, 12, 13, 14, 15] : List StationId).flatMap s.dev.stationData)
    else s.opAnswer 0x31 tag s.dev .badArgument)) ∧
  (∀ (n : Nat) (o : Option (List Byte)),
    optBytes n o = match o with | none => 0 :: List.replicate n 0 | some bs => 1 :: bs) ∧
  (∀ r : LineRecord, let c := r.config
    r.data = [codeYes r.binding.isSome] ++ optBytes 1 (r.binding.map fun b => [idByte b.station]) ++
      optBytes 1 (r.binding.map fun b => [codeDrum b.drum]) ++
      optBytes 1 (r.binding.map fun b => [BitVec.ofNat 8 b.group.val]) ++
      [c.slack, c.low, c.high, c.alarm, c.critical, c.hyst, c.persistence, c.criticalCount, c.zero, c.span,
        c.shift].flatMap byte2 ++ [codeCable c.cable] ++
      [c.stow, c.minLength, c.maxLength, c.tendStep, c.runOutTime, c.rewindTime, c.lockTime, c.releaseTime,
        c.divisor].flatMap byte2 ++
      [codeLineState r.state, codeOwner r.owner, codeYes r.resync] ++ optBytes 1 (r.cause.map fun x => [codeCause x]) ++
      optBytes 2 (r.lastRaw.map byte2) ++ byte2 r.tension ++ byte2 r.filtered ++ [codeYes r.seeded, codeBand r.band] ++
      optBytes 1 (r.candidate.map fun x => [codeBand x]) ++
      [BitVec.ofNat 8 r.persistCount, BitVec.ofNat 8 r.criticalRun, codeSensor r.sensor, BitVec.ofNat 8 r.pollCount] ++
      optBytes 2 (r.length.map byte2) ++ optBytes 1 (r.latch.map fun x => [codeLatch x]) ++
      optBytes 1 (r.brake.map fun x => [codeBrake x]) ++ optBytes 1 (r.motion.map fun x => [codeMotion x]) ++
      optBytes 2 (r.lastAction.map fun x => [BitVec.ofNat 8 x.1.val, codeActionStatus x.2]) ++
      optBytes 2 (r.triggerInFlight.map fun x => [BitVec.ofNat 8 x.1.val, BitVec.ofNat 8 x.2.val]) ++
      [codeMark r.lengthLimit, BitVec.ofNat 8 r.telemetryCount]) ∧
  (∀ (en : TriggerEntry) (now : Bool),
    en.data now = codeSource en.source ++ [codeYes en.enabled, codeMode en.mode, codePolarity en.polarity,
        codeAction en.action, match en.target with | .sourceLine => 0 | .lineSet _ => 1 | .group _ => 2] ++
      (match en.target with
        | .sourceLine => [0, 0, 0] | .lineSet s => 1 :: wordBytes s | .group g => 1 :: byte2 g.val) ++
      [codeDelivery en.status, codeTruth en.edgeRef, BitVec.ofNat 8 en.succeeded, BitVec.ofNat 8 en.failed,
        codeTruth now]) ∧
  (∀ u : ScanUnit,
    let setting (c : ScanConfig) :=
      [codeScanMode c.mode, idByte c.target] ++ wordBytes c.scanSet ++ wordBytes c.prioritySet ++ byte2 c.interval
    u.data = setting u.config ++ optBytes 8 (u.pending.map setting) ++
      (match u.sweep with
        | none => [0, 0, 0, 0]
        | some w => [1, BitVec.ofNat 8 w.members.length] ++
          (w.members.flatMap fun (p : LineId × MemberState) => [idByte p.1, codeMember p.2]) ++
          [BitVec.ofNat 8 w.sent, BitVec.ofNat 8 w.received]) ++
      [codeYes u.sweepDue, idByte u.pointer, BitVec.ofNat 8 u.pollList.length] ++
      u.pollList.flatMap fun p => match p with
        | .line i sweep followUp => [0, idByte i, BitVec.ofNat 8 ((if sweep then 1 else 0) + (if followUp then 2 else 0))]
        | .probe st => [1, idByte st, 0]) ∧
  (∀ d : Device, let l := d.quay.link
    d.statusData = [l.silence, l.discard, l.hold, l.window, l.retry, l.powerGood].flatMap byte2 ++
      [codeTruth d.quay.hostSilent] ++ byte2 (secondsLeft d.quay.silenceTimer) ++
      [codeLevel (if d.trig.alm = true then .high else .low)] ++
      (([0, 1, 2, 3] : List InputId).map fun n => codeLevel d.trig.inputs[n].debounced) ++
      [BitVec.ofNat 8 d.quay.events.length, codeMark d.quay.overrun, BitVec.ofNat 8 d.bridge.posted.length,
        BitVec.ofNat 8 (allSlots.countP fun k => decide (d.bridge.slots[k].state ≠ .free)),
        BitVec.ofNat 8 d.trig.actions.length]) ∧
  (∀ (d : Device) (st : StationId), let r := d.stations[st]
    d.stationData st = [codePower r.power, codeMask r.mask, codePresence r.presence, codeYes r.enabled, codeYes r.parked,
        codeDrive r.driveA, codeDrive r.driveB, codeYes (decide (r.driveA = .driveFault ∨ r.driveB = .driveFault)),
        codeResetting r.resetting] ++
      optBytes 2 ((d.stationOperation st).map fun p => [codeOp p.1, BitVec.ofNat 8 p.2]) ++
      optBytes 2 (r.outcome.map fun p => [codeOp p.1, codeOutcome p.2]) ++ [BitVec.ofNat 8 r.missed] ++
      byte2 r.missedLimit ++ [r.flags.byte] ++ byte2 (secondsLeft d.hold[st])) ∧
  secondsLeft none = 0 ∧ (∀ n : Nat, secondsLeft (some n) = (n + 999) / 1000) ∧
  [LineState.unassigned, .stowed, .runningOut, .ready, .locking, .locked, .tending, .releasing, .released, .rewinding,
    .fault].map codeLineState = [0, 1, 2, 3, 4, 5, 6, 7, 8, 9, 10] ∧
  [Owner.quay, .localOwner].map codeOwner = [0, 1] ∧ [Drum.a, .b].map codeDrum = [0, 1] ∧
  [SensorMark.ok, .suspect, .open_].map codeSensor = [0, 1, 2] ∧ [Brake.set, .free].map codeBrake = [0, 1] ∧
  [ActionStatus.idle, .busy, .done, .failed].map codeActionStatus = [0, 1, 2, 3] ∧
  [TriggerMode.edge, .level].map codeMode = [0, 1] ∧ [Polarity.activeHigh, .activeLow].map codePolarity = [0, 1] ∧
  [DeliveryStatus.idle, .pending, .awaitingAck].map codeDelivery = [0, 1, 2] ∧ [true, false].map codeTruth = [0, 1] ∧
  [MemberState.outstanding, .inFlight, .done].map codeMember = [0, 1, 2] ∧
  [Level.high, .low].map codeLevel = [0, 1] ∧ [PowerMask.global, .individual].map codeMask = [0, 1] ∧
  [DriveStatus.ok, .driveFault].map codeDrive = [0, 1] ∧ [StationOp.park, .unpark, .reset].map codeOp = [0, 1, 2] ∧
  [OpOutcome.acked, .notTaken].map codeOutcome = [0, 1]

/-- CLEAR FAULT (R20). -/
def Obligations.ClearFaultChecksAndEffect : Prop :=
  ∀ (tag line : Byte) (s₀ : State), s₀.dev.ready → let s := s₀.heard
    exec (.clearFault tag line) s₀ = .next (
    match id16 line with
    | none => s.opAnswer 0x07 tag s.dev .badArgument
    | some i =>
      if s.dev.lines[i].state ≠ .fault then s.opAnswer 0x07 tag s.dev .badState
      else s.opAnswer 0x07 tag (s.dev.setLine i { s.dev.lines[i] with resync := true }) .ok)

/-- ABORT LINE (R77, R78): the live slot ends ABORTED, and a slot whose frame had been sent places one STOP for the
line's drum. -/
def Obligations.AbortLineChecksAndEffect : Prop :=
  ∀ (tag line : Byte) (s₀ : State), s₀.dev.ready → let s := s₀.heard
    exec (.abortLine tag line) s₀ = .next (
    match id16 line with
    | none => s.opAnswer 0x08 tag s.dev .badArgument
    | some i =>
      match s.dev.liveSlot i with
      | none => s.opAnswer 0x08 tag s.dev .badState
      | some k =>
        let d := s.dev.endSlot k .aborted
        match s.dev.bridge.slots[k].state, s.dev.lines[i].binding with
        | .queued, _ => s.opAnswer 0x08 tag d .ok
        | _, none => s.opAnswer 0x08 tag d .ok
        | _, some b =>
          if ∃ x ∈ d.bus.stationSource, x.station = b.station ∧ x.frame = .stop b.drum then s.opAnswer 0x08 tag d .ok
          else
            s.opAnswer 0x08 tag { d with bus := { d.bus with
              stationSource := d.bus.stationSource ++
                [{ station := b.station, frame := .stop b.drum, attempts := 0 }] } } .ok)

/-! ### Management: triggers, scan, link -/

/-- LOAD TRIGGER (R84): the configuration is replaced, the entry is IDLE with no delivery outcome and its edge reference
at the present condition, ALM is re-formed, and an enabled LEVEL entry whose condition is true fires
(model's choice, unused parameters: log entry 23; a reply behind the events of the same processing: log entry 6). -/
def Obligations.LoadTriggerChecksAndEffect : Prop :=
  ∀ (tag entry source param enabled mode polarity action targetMode : Byte) (target : Word16) (s₀ : State),
    s₀.dev.ready → let s := s₀.heard
    exec (.loadTrigger tag entry source param enabled mode polarity action targetMode target) s₀ = .next (
      match idBelow 12 entry, sourceOfCode source param, yesOfCode enabled, modeOfCode mode, polarityOfCode polarity,
          actionOfCode action, targetOfCode targetMode target with
      | some e, some src, some en, some m, some pol, some act, some tgt =>
        if tgt = .sourceLine ∧ (∀ i : LineId, src ≠ .lineCritical i) then s.opAnswer 0x10 tag s.dev .badArgument
        else if s.dev.trig.entries[e].status = .pending then s.opAnswer 0x10 tag s.dev .badState
        else
          let new : TriggerEntry :=
            { source := src, enabled := en, mode := m, polarity := pol, action := act, target := tgt, status := .idle,
              edgeRef := false, succeeded := 0, failed := 0 }
          let now := s.dev.conditionOf new
          let d := (s.dev.setEntry e { new with edgeRef := now }).reformAlm
          s.opAnswer 0x10 tag (if en = true ∧ m = .level ∧ now = true then d.fire e else d) .ok
      | _, _, _, _, _, _, _ => s.opAnswer 0x10 tag s.dev .badArgument)

/-- TRIGGER ACK (R99, R89) and FIRE TRIGGER (R90) (model's choice, a reply behind the events of the same
processing: log entry 6). -/
def Obligations.TriggerAckAndFireTrigger : Prop :=
  (∀ (tag entry : Byte) (s₀ : State), s₀.dev.ready → let s := s₀.heard
    exec (.triggerAck tag entry) s₀ = .next (
      match idBelow 12 entry with
      | none => s.opAnswer 0x12 tag s.dev .badArgument
      | some e =>
        let en := s.dev.trig.entries[e]
        if en.status ≠ .awaitingAck then s.opAnswer 0x12 tag s.dev .badState
        else
          let d := (s.dev.setEntry e { en with status := .idle }).reformAlm
          s.opAnswer 0x12 tag
            (if en.enabled = true ∧ en.mode = .level ∧ s.dev.conditionOf en = true then d.fire e else d) .ok)) ∧
  (∀ (tag entry : Byte) (s₀ : State), s₀.dev.ready → let s := s₀.heard
    exec (.fireTrigger tag entry) s₀ = .next (
      match idBelow 12 entry with
      | none => s.opAnswer 0x13 tag s.dev .badArgument
      | some e =>
        let en := s.dev.trig.entries[e]
        if en.source ≠ .software then s.opAnswer 0x13 tag s.dev .badArgument
        else if en.enabled = false ∨ en.status = .pending then s.opAnswer 0x13 tag s.dev .badState
        else s.opAnswer 0x13 tag (s.dev.fire e) .ok))

/-- SET SCAN (R123): applied at once in OFF with no sweep, else held as the pending configuration (model's
choice, a reply behind the events of the same processing: log entry 6). -/
def Obligations.SetScanChecksAndEffect : Prop :=
  ∀ (tag mode target : Byte) (scanSet prioritySet : LineSet) (interval : Word16) (s₀ : State),
    s₀.dev.ready → let s := s₀.heard
    exec (.setScan tag mode target scanSet prioritySet interval) s₀ = .next (
      match scanModeOfCode mode, id16 target with
      | some m, some t =>
        if m = .single ∧ s.dev.scan.config.mode = .single ∧ s.dev.scan.sweep.isSome then
          s.opAnswer 0x18 tag s.dev .scanBusy
        else
          let iv := max 1 (min 255 interval.toNat)
          let c : ScanConfig :=
            { mode := m, target := t, scanSet := scanSet, prioritySet := prioritySet, interval := iv }
          let d := if s.dev.scan.config.mode = .off ∧ s.dev.scan.sweep.isNone then s.dev.applyConfig c
            else { s.dev with scan := { s.dev.scan with pending := some c } }
          if iv ≠ interval.toNat then
            s.opAnswer 0x18 tag d .clamped
              ([codeScanMode m, idByte t] ++ wordBytes scanSet ++ wordBytes prioritySet ++ byte2 iv)
          else s.opAnswer 0x18 tag d .ok
      | _, _ => s.opAnswer 0x18 tag s.dev .badArgument)

/-- SET LINK (R167): applied whole with its clamped values; the silence timer restarts at the new silence time, or stops
where it is 0. HOST_SILENT is false by then, its frame having been heard. -/
def Obligations.SetLinkAppliesWhole : Prop :=
  ∀ (tag : Byte) (si di ho wi re pg : Word16) (s₀ : State), s₀.dev.ready → let s := s₀.heard
    exec (.setLink tag si di ho wi re pg) s₀ = .next (
      let l : LinkSettings :=
        { silence := min 60 si.toNat, discard := max 1 (min 60 di.toNat), hold := max 1 (min 60 ho.toNat),
          window := max 1 (min 15 wi.toNat), retry := max 1 (min 8 re.toNat), powerGood := min 3 pg.toNat }
      let d := { s.dev with quay := { s.dev.quay with
        link := l, silenceTimer := if l.silence = 0 then none else some (l.silence * 1000) } }
      if l.silence = si.toNat ∧ l.discard = di.toNat ∧ l.hold = ho.toNat ∧ l.window = wi.toNat ∧ l.retry = re.toNat ∧
          l.powerGood = pg.toNat then
        s.opAnswer 0x30 tag d .ok
      else
        s.opAnswer 0x30 tag d .clamped
          (byte2 l.silence ++ byte2 l.discard ++ byte2 l.hold ++ byte2 l.window ++ byte2 l.retry ++ byte2 l.powerGood))

/-! ### Management: stations -/

/-- STATION CONFIG (R136) and ACK STATION CHANGES (R137) (model's choice, bits 5 to 7 of the flags: log entry 23). -/
def Obligations.StationSettings : Prop :=
  (∀ (tag station mask : Byte) (limit : Word16) (s₀ : State), s₀.dev.ready → let s := s₀.heard
    exec (.stationConfig tag station mask limit) s₀ = .next (
      match id16 station, maskOfCode mask with
      | some st, some m =>
        let n := max 1 (min 15 limit.toNat)
        let d := s.dev.setStation st { s.dev.stations[st] with mask := m, missedLimit := n }
        if n ≠ limit.toNat then s.opAnswer 0x20 tag d .clamped ([station, mask] ++ byte2 n)
        else s.opAnswer 0x20 tag d .ok
      | _, _ => s.opAnswer 0x20 tag s.dev .badArgument)) ∧
  (∀ (tag station flags : Byte) (s₀ : State), s₀.dev.ready → let s := s₀.heard
    exec (.ackStationChanges tag station flags) s₀ = .next (
      match id16 station with
      | none => s.opAnswer 0x27 tag s.dev .badArgument
      | some st =>
        let f := s.dev.stations[st].flags
        s.opAnswer 0x27 tag
          (s.dev.setStation st { s.dev.stations[st] with flags :=
            { presence := f.presence && !flags.getLsbD 0, enable := f.enable && !flags.getLsbD 1,
              park := f.park && !flags.getLsbD 2, fault := f.fault && !flags.getLsbD 3,
              reset := f.reset && !flags.getLsbD 4 } }) .ok))

/-- STATION POWER and GLOBAL POWER (R142), what switching a station on does (R143) and what switching it off does (R144)
(model's choices, the ascending order of the stations and of the lines that enter FAULT: log entry 22; a reply behind the
events of the same processing: log entry 6). -/
def Obligations.PowerOperations : Prop :=
  (∀ (tag station onOff : Byte) (s₀ : State), s₀.dev.ready → let s := s₀.heard
    exec (.stationPower tag station onOff) s₀ = .next (
      match id16 station, onOfCode onOff with
      | some st, some on =>
        if s.dev.stations[st].mask = .global then s.opAnswer 0x21 tag s.dev .badArgument
        else if on = false ∧ s.dev.powerOffBlocked st = true then s.opAnswer 0x21 tag s.dev .stationBusy
        else s.opAnswer 0x21 tag (s.dev.switchPower st on) .ok
      | _, _ => s.opAnswer 0x21 tag s.dev .badArgument)) ∧
  (∀ (tag onOff : Byte) (s₀ : State), s₀.dev.ready → let s := s₀.heard
    exec (.globalPower tag onOff) s₀ = .next (
      match onOfCode onOff with
      | none => s.opAnswer 0x22 tag s.dev .badArgument
      | some true => s.opAnswer 0x22 tag (s.dev.globalStations.foldl (fun d st => d.switchPower st true) s.dev) .ok
      | some false =>
        match s.dev.globalBlocked with
        | some st => s.opAnswer 0x22 tag s.dev .stationBusy [idByte st]
        | none =>
          s.opAnswer 0x22 tag (s.dev.globalStations.foldl (fun d st => d.switchPower st false) s.dev) .ok)) ∧
  (∀ (d : Device) (st : StationId), d.powerOffBlocked st = true ↔
    ∃ (i : LineId) (b : Binding), d.lines[i].binding = some b ∧ b.station = st ∧
      (d.lines[i].state = .runningOut ∨ d.lines[i].state = .locking ∨ d.lines[i].state = .locked ∨
        d.lines[i].state = .tending ∨ d.lines[i].state = .releasing ∨ d.lines[i].state = .rewinding)) ∧
  (∀ d : Device,
    d.globalStations = all16.filter (fun (st : StationId) => decide (d.stations[st].mask = .global)) ∧
    d.globalBlocked = d.globalStations.find? fun (st : StationId) =>
      decide (d.stations[st].power ≠ .off) && d.powerOffBlocked st) ∧
  (∀ (d : Device) (st : StationId), d.stations[st].power = .off → 0 < d.quay.link.powerGood →
    d.switchPower st true = d.setStation st { d.stations[st] with
      power := .powering, powerGood := some (d.quay.link.powerGood * 250) }) ∧
  (∀ (d : Device) (st : StationId), d.stations[st].power = .off → d.quay.link.powerGood = 0 →
    d.switchPower st true = (d.setStation st { d.stations[st] with power := .on, powerGood := none }).syncProbe st) ∧
  (∀ (d : Device) (st : StationId), d.stations[st].power ≠ .off → d.switchPower st true = d) ∧
  (∀ (d : Device) (st : StationId), d.stations[st].power = .off → d.switchPower st false = d) ∧
  (∀ (d : Device) (st : StationId), d.stations[st].power ≠ .off →
    let r := d.stations[st]
    let t := d.switchPower st false
    t.stations[st] = { r with
      power := .off, powerGood := none, presence := .absent, resetting := false, parked := false, driveA := .ok,
      driveB := .ok, missed := 0
      flags := { r.flags with
        presence := r.flags.presence || decide (r.presence = .present), reset := r.flags.reset || r.resetting,
        park := r.flags.park || r.parked, fault := r.flags.fault || r.driveFault } } ∧
    (∀ st' : StationId, st' ≠ st → t.stations[st'] = d.stations[st']) ∧
    WorkGone d t st ∧
    (∀ i : LineId, t.lines[i].unworked = d.lines[i].unworked) ∧
    (∀ i : LineId, d.lines[i].onStation st = false → t.lines[i] = d.lines[i]) ∧
    (∃ es : List Event, (∀ e ∈ es, e.isDelivery = true) ∧
      t.quay = (d.queueEvents (d.lostFaults st ++ d.lostPosted st .powerOff ++ es ++
        stationChanges st r.flags t.stations[st])).quay) ∧
    t.scan.probe[st] = none ∧ t.trig.stationLost = d.trig.stationLost ∧ t.hold = d.hold ∧
    t.trig.inputs = d.trig.inputs)

/-- ENABLE STATION (R141) (model's choice, a reply behind the events of the same processing: log entry 6), and what setting
change flags does (R137). -/
def Obligations.EnableStationChecksAndEffect : Prop :=
  (∀ (d : Device) (st : StationId) (f : ChangeFlags), let r := d.stations[st]
    d.raiseChange st f =
      (let set : StationRecord := { r with flags :=
        { presence := r.flags.presence || f.presence, enable := r.flags.enable || f.enable
          park := r.flags.park || f.park, fault := r.flags.fault || f.fault, reset := r.flags.reset || f.reset } }
       (d.setStation st set).queueEvents (stationChanges st r.flags set))) ∧
  ∀ (tag station : Byte) (s₀ : State), s₀.dev.ready → let s := s₀.heard
    exec (.enableStation tag station) s₀ = .next (
    match id16 station with
    | none => s.opAnswer 0x23 tag s.dev .badArgument
    | some st =>
      if s.dev.stations[st].enabled then s.opAnswer 0x23 tag s.dev .ok
      else
        let d := s.dev.setStation st { s.dev.stations[st] with enabled := true, missed := 0 }
        let d := d.raiseChange st { enable := true }
        let d := { d with trig := { d.trig with stationLost := put d.trig.stationLost st false } }.takeConditions
        s.opAnswer 0x23 tag (d.syncProbe st) .ok)

/-- PARK and UNPARK (R146), STATION RESET (R148), and what keeps a station from them (model's choice, PARK's check 4 before
the station already parked: log entry 33). -/
def Obligations.StationOperationsChecksAndEffect : Prop :=
  (∀ (park : Bool) (tag station : Byte) (s₀ : State), s₀.dev.ready → let s := s₀.heard
      exec (if park then .park tag station else .unpark tag station) s₀ = .next (
        let code : Byte := if park then 0x24 else 0x25
        match id16 station with
        | none => s.opAnswer code tag s.dev .badArgument
        | some st =>
          let r := s.dev.stations[st]
          if ¬(r.presence = .present ∧ r.enabled = true ∧ r.power = .on) then s.opAnswer code tag s.dev .stationUnavailable
          else if (s.dev.stationOperation st).isSome ∨ r.resetting = true then s.opAnswer code tag s.dev .stationBusy
          else if park = true ∧ s.dev.parkBlocked st = true then s.opAnswer code tag s.dev .stationBusy
          else if r.parked = park then s.opAnswer code tag s.dev .ok
          else
            s.opAnswer code tag { s.dev with bus := { s.dev.bus with
              stationSource := s.dev.bus.stationSource ++
                [{ station := st, frame := .op (if park then .park else .unpark), attempts := 0 }] } } .ok)) ∧
  (∀ (tag station : Byte) (s₀ : State), s₀.dev.ready → let s := s₀.heard
    exec (.stationReset tag station) s₀ = .next (
      match id16 station with
      | none => s.opAnswer 0x26 tag s.dev .badArgument
      | some st =>
        let r := s.dev.stations[st]
        if ¬(r.enabled = true ∧ r.power = .on) then s.opAnswer 0x26 tag s.dev .stationUnavailable
        else if (s.dev.stationOperation st).isSome ∨ r.resetting = true ∨ s.dev.stationHasSlot st = true then
          s.opAnswer 0x26 tag s.dev .stationBusy
        else
          let d := s.dev.setStation st { r with resetting := true }
          s.opAnswer 0x26 tag { d with bus := { d.bus with
            stationSource := d.bus.stationSource ++ [{ station := st, frame := .op .reset, attempts := 0 }] } } .ok)) ∧
  (∀ (r : LineRecord) (st : StationId), r.onStation st = true ↔ ∃ b : Binding, r.binding = some b ∧ b.station = st) ∧
  (∀ (d : Device) (st : StationId), (d.stationOperation st).isSome = true ↔
    ∃ x ∈ d.bus.stationSource, x.station = st ∧ ∃ op : StationOp, x.frame = .op op) ∧
  (∀ (d : Device) (st : StationId),
    let slotHeld := ∃ (k : SlotId) (c : SlotCommand), d.bridge.slots[k].command = some c ∧
      d.lines[c.line].onStation st = true ∧ (d.bridge.slots[k].state = .queued ∨ d.bridge.slots[k].state = .issued ∨
        d.bridge.slots[k].state = .awaiting)
    (d.stationHasSlot st = true ↔ slotHeld) ∧
    (d.parkBlocked st = true ↔ (∃ p ∈ d.bridge.posted, p.station = st) ∨ slotHeld ∨
      (∃ y ∈ d.tend, d.lines[y.line].onStation st = true) ∨
      ∃ i : LineId, d.lines[i].onStation st = true ∧ (d.lines[i].state = .runningOut ∨ d.lines[i].state = .locking ∨
        d.lines[i].state = .releasing ∨ d.lines[i].state = .rewinding)))

/-! ### Soft reset -/

/-- SOFT RESET is answered OK and awaits its reply; the reset takes effect at the end of that reply and at no other
moment (R175) (model's choice, out of place: log entry 3). -/
def Obligations.SoftResetAwaitsItsReply : Prop :=
  (∀ (tag : Byte) (s₀ : State), s₀.dev.ready → let s := s₀.heard
    exec (.softReset tag) s₀ =
    .next (s.opAnswer 0x3F tag { s.dev with quay := { s.dev.quay with resetAwaiting := true } } .ok)) ∧
  (∀ (r : Reply) (s : State), s.dev.quay.resetAwaiting = true → s.dev.quay.replies = [] →
    s.dev.quay.transmitter = some (.reply r) →
    exec .resetTakesEffect s = .next (s.onDevice fun d => d.softReset.settle)) ∧
  (∀ s : State, s.dev.quay.resetAwaiting = false ∨ s.dev.quay.replies ≠ [] ∨ s.dev.quay.transmitter = none →
    exec .resetTakesEffect s = .next (s.onDevice Device.settle))

/-- What every block's soft reset leaves (R26, R59, R82, R102, R121, R134, R150, R151, R175), before the LEVEL entries
are tried. -/
def Obligations.SoftResetOfEveryBlock : Prop :=
  ∀ d : Device, let t := d.softResetBlocks
    d.softReset = allEntries.foldl Device.testLevel t ∧
    (∀ i : LineId, d.lines[i].binding ≠ none → t.lines[i] =
      { d.lines[i] with
        state := .fault, cause := some .resync, resync := true, owner := .quay, tension := 0, filtered := 0,
        seeded := false, band := .working, candidate := none, persistCount := 0, criticalRun := 0, sensor := .ok,
        pollCount := 0, triggerInFlight := none, lengthLimit := false, telemetryCount := 0 }) ∧
    (∀ i : LineId, d.lines[i].binding = none → t.lines[i] = { d.lines[i] with pollCount := 0 }) ∧
    t.tend = [] ∧ t.bridge.posted = [] ∧ t.bridge.retries = [] ∧ (∀ k : SlotId, t.bridge.slots[k] = {}) ∧
    t.trig.actions = [] ∧ t.trig.stationLost = d.trig.stationLost ∧ t.trig.alm = false ∧
    (∀ i : LineId, t.trig.releaseTimers[i] = none) ∧
    (∀ n : InputId, t.trig.inputs[n] =
      { pin := d.trig.inputs[n].pin, debounced := d.trig.inputs[n].pin, stability := none }) ∧
    (∀ e : EntryId, t.trig.entries[e] =
      { d.trig.entries[e] with status := .idle, edgeRef := t.conditionOf d.trig.entries[e] }) ∧
    t.scan.config = d.scan.config ∧ t.scan.pending = d.scan.pending ∧ t.scan.pointer = d.scan.pointer ∧
    t.scan.pollList = [] ∧ t.scan.sweep = none ∧ t.scan.sweepDue = false ∧
    (∀ i : LineId, t.scan.followUp[i] = none) ∧
    t.scan.intervalTimer =
      (if d.scan.config.mode = .off then none else some (d.scan.config.interval * 10)) ∧
    (∀ st : StationId, t.scan.probe[st] = if d.stations[st].probeDue = true then some 1000 else none) ∧
    t.bus = { nextAction := d.bus.nextAction } ∧
    (∀ st : StationId, t.stations[st] = { d.stations[st] with missed := 0, flags := {}, resetting := false }) ∧
    (∀ st : StationId, t.hold[st] = none) ∧
    t.quay = { link := d.quay.link,
               silenceTimer := if d.quay.link.silence = 0 then none else some (d.quay.link.silence * 1000) }

/-! ### The scheduler and the exchange engine -/

/-- The action number of a sending (R110), the fields of its frame (R109) and its seven characters (R161), and what the
sending does to the item of each source: a tend request (R55), the posted head (R63), a confirmed slot (R71), a trigger
target and its line (R94, R23, R100, R133), the STATION head (R111), a line's poll entry with its poll count and sweep
member (R117, R126, R129, R130), a probe (R132); a broadcast waits for its end (R96). -/
def Obligations.ActionNumbersOfSendings : Prop :=
  ∀ (d : Device) (o : Offer), let t := d.send o
    t.bus.engine = .sending ∧
    (∀ st : StationId, o.station = some st → o.verb ≠ .poll →
      (∃ x : Exchange, t.bus.exchange = some x ∧ x.owner = o.owner ∧ x.station = some st ∧ x.frame =
        { priority := o.priority, dest := number st, verb := o.verb, drum := o.drum, kind := o.kind,
          action := d.bus.nextAction[st], arg := o.arg }) ∧
      t.bus.nextAction[st] = d.bus.nextAction[st] + 1 ∧
      (∀ st' : StationId, st' ≠ st → t.bus.nextAction[st'] = d.bus.nextAction[st'])) ∧
    (o.station = none ∨ o.verb = .poll →
      (∃ x : Exchange, t.bus.exchange = some x ∧ x.owner = o.owner ∧ x.frame.action = 0 ∧
        x.frame.verb = o.verb ∧ x.frame.drum = o.drum ∧ x.frame.kind = o.kind ∧ x.frame.priority = o.priority ∧
        x.station = o.station ∧ x.frame.arg = o.arg ∧
        x.frame.dest = match o.station with | some st => number st | none => 31) ∧
      t.bus.nextAction = d.bus.nextAction) ∧
    -- the other blocks, and the items of the other sources
    t.stations = d.stations ∧ t.hold = d.hold ∧ t.quay = d.quay ∧ t.freeCount = d.freeCount ∧
    t.bus.rotation = d.bus.rotation ∧ t.bus.pollRun = d.bus.pollRun ∧ t.bus.observer = d.bus.observer ∧
    (o.owner ≠ .station → t.bus.stationSource = d.bus.stationSource) ∧
    ((∀ i : LineId, o.owner ≠ .tend i) → t.tend = d.tend) ∧
    (o.owner ≠ .posted → (∀ k : SlotId, o.owner ≠ .confirmed k) → t.bridge = d.bridge) ∧
    ((∀ (e : EntryId) (i : LineId), o.owner ≠ .trigger e i) → t.trig = d.trig ∧
      ((∀ (i : LineId) (s f : Bool), o.owner ≠ .pollLine i s f) → t.lines = d.lines ∧
        ((∀ st : StationId, o.owner ≠ .probe st) → t.scan = d.scan))) ∧
    -- the item of each source
    (∀ i : LineId, o.owner = .tend i → t.tend = d.tend.map fun (y : TendEntry) =>
      if y.line = i then { y with sent := true, attempts := y.attempts + 1 } else y) ∧
    (∀ (p : PostedEntry) (ps : List PostedEntry), o.owner = .posted → d.bridge.posted = p :: ps →
      t.bridge = { d.bridge with posted := { p with sent := true, attempts := p.attempts + 1 } :: ps }) ∧
    (∀ (k : SlotId) (st : StationId), o.owner = .confirmed k → o.station = some st → o.verb ≠ .poll →
      t.bridge = { d.bridge with
        slots := put d.bridge.slots k { d.bridge.slots[k] with
          state := .issued, action := some d.bus.nextAction[st], attempts := d.bridge.slots[k].attempts + 1 }
        retries := d.bridge.retries.erase k }) ∧
    (∀ (x : StationItem) (xs : List StationItem), o.owner = .station → d.bus.stationSource = x :: xs →
      t.bus.stationSource = { x with attempts := x.attempts + 1 } :: xs) ∧
    (∀ (e : EntryId) (i : LineId) (st : StationId), o.owner = .trigger e i → o.station = some st → o.verb ≠ .poll →
      t.trig.actions = d.trig.actions.map (fun (r : ActionRecord) =>
        if r.entry = e then { r with targets := r.targets.map fun (y : Target) =>
          if y.line = i then { y with state := TargetState.sent, attempts := y.attempts + 1 } else y } else r) ∧
      t.trig.entries = d.trig.entries ∧ t.trig.inputs = d.trig.inputs ∧ t.trig.stationLost = d.trig.stationLost ∧
      t.trig.alm = d.trig.alm ∧
      (o.verb ≠ .release → t.lines = d.lines ∧ t.trig.releaseTimers = d.trig.releaseTimers ∧ t.scan = d.scan) ∧
      (o.verb = .release →
        t.lines = put d.lines i { d.lines[i] with triggerInFlight := some (e, d.bus.nextAction[st]) } ∧
        t.trig.releaseTimers = put d.trig.releaseTimers i none ∧
        t.scan = { d.scan with followUp := put d.scan.followUp i (
          if d.scan.followUp[i].isSome then d.scan.followUp[i] else some 100) })) ∧
    (∀ (i : LineId) (sweep followUp : Bool), o.owner = .pollLine i sweep followUp →
      t.lines = put d.lines i { d.lines[i] with pollCount := (d.lines[i].pollCount + 1) % 8 } ∧
      t.scan = { d.scan with
        pollList := d.scan.pollList.tail
        sweep := if sweep = true then d.scan.sweep.map (fun (w : Sweep) =>
            { w with
              members := w.members.map (fun (p : LineId × MemberState) => if p.1 = i then (p.1, .inFlight) else p)
              sent := w.sent + 1 })
          else d.scan.sweep }) ∧
    (∀ st : StationId, o.owner = .probe st → t.scan = { d.scan with pollList := d.scan.pollList.tail }) ∧
    -- the characters
    (∀ f : BusFrame, f.dest < 32 →
      let body : List Byte := [arbitrationChar f.priority 30,
        BitVec.ofNat 8 (f.dest + (match f.drum with | .a => 0 | .b => 32) +
          (match f.kind with | .normal => 0 | .checkHigh => 64 | .checkLow => 128)),
        codeBusVerb f.verb, BitVec.ofNat 8 f.action.val] ++ byte2 f.arg
      f.bytes = body ++ [crc8 body]) ∧
    [0, 1, 2, 3].map (fun p => arbitrationChar p 30) = [0xBC, 0xBE, 0xBD, 0xBF]

/-- The scheduler's choice (R106, R107, R108): nothing on a busy bus; class 1 first; at a poll run of 4 class 3 before
class 2; a class-3 sending clears the poll run and takes its source to the last place. What each source offers: the trigger
action list (R94, R96), the poll list after the check of its head (R129, R130, R132), POSTED (R63), CONFIRMED (R70, R71),
TEND (R55) and STATION (R78, R111, R146), and the class-3 choice among them (R108) (model's choice, the drum of a broadcast
and the kind of a frame that is no POLL: log entry 29). -/
def Obligations.SchedulerOrder : Prop :=
  (∀ d : Device, d.bus.engine ≠ .idle ∨ d.bus.observer ≠ .quiet → d.choose = d) ∧
  (∀ (d : Device) (o : Offer), d.bus.engine = .idle → d.bus.observer = .quiet → d.offerTrigger = some o →
    d.choose = d.send o ∧ (d.send o).bus.pollRun = d.bus.pollRun ∧ (d.send o).bus.rotation = d.bus.rotation) ∧
  (∀ (d : Device) (p : ClassThree × Offer), d.bus.engine = .idle → d.bus.observer = .quiet → d.offerTrigger = none →
    d.bus.pollRun = 4 → d.chooseThree = some p → d.choose = d.sendThree p) ∧
  (∀ (d : Device) (p : ClassThree × Offer), d.bus.engine = .idle → d.bus.observer = .quiet → d.offerTrigger = none →
    d.scan.pollList = [] → d.chooseThree = some p → d.choose = d.sendThree p) ∧
  (∀ (d : Device) (o : Offer), d.bus.engine = .idle → d.bus.observer = .quiet → d.offerTrigger = none →
    (d.bus.pollRun ≠ 4 ∨ d.chooseThree = none) → Device.pruneHead 64 d = d → d.offerPoll = some o →
    d.choose = d.sendPoll o) ∧
  (∀ (d : Device) (p : ClassThree × Offer),
    (d.sendThree p).bus.pollRun = 0 ∧
    (d.sendThree p).bus.rotation = d.bus.rotation.filter (fun c => decide (c ≠ p.1)) ++ [p.1]) ∧
  (∀ (d : Device) (o : Offer),
    (d.sendPoll o).bus.pollRun = min 4 (d.bus.pollRun + 1) ∧ (d.sendPoll o).bus.rotation = d.bus.rotation) ∧
  -- classes 2 and 3 after the check of the poll list's head
  (∀ d : Device, d.bus.engine = .idle → d.bus.observer = .quiet → d.offerTrigger = none →
    (d.bus.pollRun ≠ 4 ∨ d.chooseThree = none) → let d' := Device.pruneHead 64 d
    (∀ o : Offer, d'.offerPoll = some o → d.choose = d'.sendPoll o) ∧
    (∀ p : ClassThree × Offer, d'.offerPoll = none → d'.chooseThree = some p → d.choose = d'.sendThree p) ∧
    (d'.offerPoll = none → d'.chooseThree = none → d.choose = d')) ∧
  (∀ (d : Device) (n : Nat),
    (d.scan.pollList = [] → Device.pruneHead n d = d) ∧
    (∀ (i : LineId) (s f : Bool) (rest : List PollEntry), d.scan.pollList = .line i s f :: rest →
      let d' := { d with scan := { d.scan with pollList := rest } }
      (d.eligible i = true → Device.pruneHead n d = d) ∧
      (d.eligible i = false →
        Device.pruneHead (n + 1) d = Device.pruneHead n (if s = true then d'.memberDone i false else d'))) ∧
    (∀ (st : StationId) (rest : List PollEntry), d.scan.pollList = .probe st :: rest →
      (d.stations[st].probeDue = true → Device.pruneHead n d = d) ∧
      (d.stations[st].probeDue = false →
        Device.pruneHead (n + 1) d = Device.pruneHead n { d with scan := { d.scan with pollList := rest } }))) ∧
  (∀ d : Device, d.scan.pollList.length ≤ 64 → let t := Device.pruneHead 64 d
    t.lines = d.lines ∧ t.stations = d.stations ∧
    (∀ (i : LineId) (s f : Bool) (rest : List PollEntry), t.scan.pollList = .line i s f :: rest → t.eligible i = true) ∧
    (∀ (st : StationId) (rest : List PollEntry), t.scan.pollList = .probe st :: rest → t.stations[st].probeDue = true)) ∧
  -- class 1
  (∀ d : Device, d.trig.actions = [] → d.offerTrigger = none) ∧
  (∀ (d : Device) (r : ActionRecord) (rs : List ActionRecord), d.trig.actions = r :: rs →
    (r.action = .stopAll → d.offerTrigger = some
      { owner := .stopAll r.entry, station := none, priority := 0, verb := .stop, drum := .a, kind := .normal, arg := 0 }) ∧
    (r.action ≠ .stopAll → (∀ y ∈ r.targets, y.state ≠ .waiting) → d.offerTrigger = none) ∧
    (∀ (before after : List Target) (y : Target) (b : Binding), r.targets = before ++ y :: after →
      (∀ x ∈ before, x.state ≠ .waiting) → y.state = .waiting → d.lines[y.line].binding = some b →
      (r.action = .hold → d.offerTrigger = some
        { owner := .trigger r.entry y.line, station := some b.station, priority := 1, verb := .hold, drum := b.drum
          kind := .normal, arg := y.step }) ∧
      (r.action = .slacken → d.offerTrigger = some
        { owner := .trigger r.entry y.line, station := some b.station, priority := 1, verb := .payout, drum := b.drum
          kind := .normal, arg := y.step }) ∧
      (r.action = .release → d.offerTrigger = some
        { owner := .trigger r.entry y.line, station := some b.station, priority := 0, verb := .release, drum := b.drum
          kind := .normal, arg := y.step }))) ∧
  -- class 2
  (∀ d : Device, d.scan.pollList = [] → d.offerPoll = none) ∧
  (∀ (d : Device) (i : LineId) (s f : Bool) (rest : List PollEntry) (b : Binding),
    d.scan.pollList = .line i s f :: rest → d.lines[i].binding = some b →
    let r := d.lines[i]
    let kind := if r.sensor = .ok ∧ (r.pollCount + 1) % 8 ≠ 0 then SampleKind.normal
      else match r.config.cable with | .none => .normal | .high => .checkHigh | .low => .checkLow
    d.offerPoll = some
      { owner := .pollLine i s f, station := some b.station, priority := 2, verb := .poll, drum := b.drum, kind := kind
        arg := 0 }) ∧
  (∀ (d : Device) (st : StationId) (rest : List PollEntry), d.scan.pollList = .probe st :: rest →
    let drum := if (d.lineAt st .a).isSome = true then Drum.a else if (d.lineAt st .b).isSome = true then .b else .a
    d.offerPoll = some
      { owner := .probe st, station := some st, priority := 2, verb := .poll, drum := drum, kind := .normal, arg := 0 }) ∧
  -- POSTED
  (∀ d : Device, d.bridge.posted = [] → d.offerPosted = none) ∧
  (∀ (d : Device) (p : PostedEntry) (ps : List PostedEntry), d.bridge.posted = p :: ps →
    (p.sent = true → d.offerPosted = none) ∧
    (p.sent = false → d.offerPosted = some
      { owner := .posted, station := some p.station, priority := 3, drum := p.drum, kind := .normal, arg := p.arg
        verb := match p.verb with | .hold => .hold | .heave => .heave | .payout => .payout })) ∧
  -- CONFIRMED
  (∀ (d : Device) (k : SlotId) (c : SlotCommand) (b : Binding), d.bridge.slots[k].command = some c →
    d.lines[c.line].binding = some b →
    let fits (j : SlotId) (cj : SlotCommand) := d.bridge.slots[j].command = some cj ∧ d.bridge.slots[j].state = .queued ∧
      ∀ p ∈ d.bridge.posted, d.lines[cj.line].onStation p.station = true → cj.order ≤ p.order
    ((∃ ks : List SlotId, d.bridge.retries = k :: ks) ∨
      (d.bridge.retries = [] ∧ fits k c ∧ ∀ (j : SlotId) (cj : SlotCommand), j ≠ k → fits j cj → c.order < cj.order)) →
    d.offerConfirmed = some
      { owner := .confirmed k, station := some b.station, priority := 3, drum := b.drum, kind := .normal, arg := c.sentArg
        verb := match c.verb with | .runOut => .runOut | .lock => .lock | .release => .release | .rewind => .rewind }) ∧
  (∀ d : Device, d.bridge.retries = [] →
    (∀ (k : SlotId) (c : SlotCommand), d.bridge.slots[k].command = some c → d.bridge.slots[k].state = .queued →
      ∃ p ∈ d.bridge.posted, d.lines[c.line].onStation p.station = true ∧ p.order < c.order) →
    d.offerConfirmed = none) ∧
  -- TEND
  (∀ d : Device, (∀ y ∈ d.tend, y.sent = true) → d.offerTend = none) ∧
  (∀ (d : Device) (before after : List TendEntry) (y : TendEntry) (b : Binding), d.tend = before ++ y :: after →
    (∀ x ∈ before, x.sent = true) → y.sent = false → d.lines[y.line].binding = some b →
    d.offerTend = some
      { owner := .tend y.line, station := some b.station, priority := 3, drum := b.drum, kind := .normal, arg := y.step
        verb := match y.direction with | .heave => .heave | .payout => .payout }) ∧
  -- STATION
  (∀ d : Device, d.bus.stationSource = [] → d.offerStation = none) ∧
  (∀ (d : Device) (x : StationItem) (xs : List StationItem), d.bus.stationSource = x :: xs →
    d.offerStation = some
      { owner := .station, station := some x.station, priority := 3, kind := .normal, arg := 0
        verb := match x.frame with | .op .park => .park | .op .unpark => .unpark | .op .reset => .reset | .stop _ => .stop
        drum := match x.frame with | .op _ => .a | .stop drum => drum }) ∧
  -- the choice among the four
  (∀ d : Device, d.offerThree .posted = d.offerPosted ∧ d.offerThree .confirmed = d.offerConfirmed ∧
    d.offerThree .tend = d.offerTend ∧ d.offerThree .station = d.offerStation ∧
    ((∀ c ∈ d.bus.rotation, d.offerThree c = none) → d.chooseThree = none) ∧
    ∀ (before after : List ClassThree) (c : ClassThree) (o : Offer), d.bus.rotation = before ++ c :: after →
      (∀ x ∈ before, d.offerThree x = none) → d.offerThree c = some o → d.chooseThree = some (c, o))

/-- What the end of a command's work may touch: ALM alone while the bus is busy; on a free bus a choice and its sending,
which leave every line but for its poll count and trigger action in flight, every station, hold timer, input and trigger
entry, the link settings, the receiver and the received frames. -/
def Obligations.SettlingLeavesTheRestAlone : Prop :=
  (∀ d : Device, d.bus.engine ≠ .idle ∨ d.bus.observer ≠ .quiet →
    d.settle = { d with trig := { d.trig with alm := d.almCondition } }) ∧
  (∀ d : Device, let t := d.settle
    (∀ i : LineId, t.lines[i].unsent = d.lines[i].unsent) ∧ t.stations = d.stations ∧ t.hold = d.hold ∧
    t.trig.inputs = d.trig.inputs ∧ t.trig.stationLost = d.trig.stationLost ∧ t.trig.entries = d.trig.entries ∧
    t.freeCount = d.freeCount ∧ t.quay.link = d.quay.link ∧ t.quay.rxBuffer = d.quay.rxBuffer ∧
    t.quay.receiver = d.quay.receiver ∧ t.quay.silenceTimer = d.quay.silenceTimer ∧
    t.quay.hostSilent = d.quay.hostSilent ∧ t.quay.resetAwaiting = d.quay.resetAwaiting ∧
    t.bus.observer = d.bus.observer ∧ t.bridge.nextOrder = d.bridge.nextOrder ∧
    t.trig.alm = t.almCondition)

/-- ARBITRATION_LOST (R113): the engine is IDLE, the observer takes the winner's frame, and what the sending took is
given back: the action number, the rotation, the poll run, and the sent item: the posted head, the confirmed slot (R71),
the tend request or the STATION head of a class-3 sending, the record of a broadcast (R96, R118), the target of a trigger
sending with its line's trigger action in flight and release timer (R94), and the line or probe entry of a POLL with its
poll count and sweep member (R129) (model's choice, log entries 3, 16; the tend request comes back with no recheck, and the owner of a detached exchange takes
nothing back, log entry 16). -/
def Obligations.LostArbitrationGivesBack : Prop :=
  (∀ (s : State) (x : Exchange) (winner : Byte), s.dev.bus.engine = .sending → s.dev.bus.exchange = some x →
    prevails winner (arbitrationChar x.frame.priority 30) = true →
    exec (.arbitrationLost winner) s = .next (s.onDevice fun d =>
      ((d.loseArbitration x).setObserver
        (if isPendantChar winner then .pendantFrame [winner] else .foreign false)).settle)) ∧
  (∀ (s : State) (winner : Byte), s.dev.bus.engine ≠ .sending →
    exec (.arbitrationLost winner) s = .next (s.onDevice Device.settle)) ∧
  (∀ (d : Device) (c : ClassThree) (o : Offer) (x : Exchange), (d.sendThree (c, o)).bus.exchange = some x →
    let t := (d.sendThree (c, o)).loseArbitration x
    t.bus.engine = .idle ∧ t.bus.exchange = none ∧ t.bus.nextAction = d.bus.nextAction ∧
    t.bus.rotation = d.bus.rotation ∧ t.bus.pollRun = d.bus.pollRun ∧ t.stations = d.stations ∧
    t.hold = d.hold ∧ t.quay = d.quay ∧
    (o.owner = .posted → (∀ p ∈ d.bridge.posted.head?, p.sent = false) → t.bridge = d.bridge) ∧
    (o.owner = .station → t.bus.stationSource = d.bus.stationSource) ∧
    (∀ i : LineId, o.owner = .tend i → (∀ y ∈ d.tend, y.line = i → y.sent = false) → t.tend = d.tend) ∧
    (∀ k : SlotId, o.owner = .confirmed k → d.bridge.slots[k].state = .queued → d.bridge.slots[k].attempts = 0 →
      k ∉ d.bridge.retries → t.bridge = d.bridge) ∧
    (∀ (k : SlotId) (ks : List SlotId), o.owner = .confirmed k → d.bridge.slots[k].state = .issued →
      0 < d.bridge.slots[k].attempts → d.bridge.retries = k :: ks → t.bridge = d.bridge)) ∧
  (∀ (d : Device) (o : Offer) (x : Exchange) (e : EntryId) (i : LineId), (d.send o).bus.exchange = some x →
    o.owner = .trigger e i →
    (∀ r ∈ d.trig.actions, r.entry = e → ∀ y ∈ r.targets, y.line = i → y.state = .waiting) →
    let t := (d.send o).loseArbitration x
    t.bus.engine = .idle ∧ t.bus.nextAction = d.bus.nextAction ∧ t.bus.rotation = d.bus.rotation ∧
    t.bus.pollRun = d.bus.pollRun ∧ t.trig = d.trig ∧ t.lines = d.lines ∧ t.bridge = d.bridge ∧ t.tend = d.tend ∧
    t.stations = d.stations ∧ t.quay = d.quay) ∧
  (∀ (d : Device) (o : Offer) (x : Exchange) (i : LineId) (sweep followUp : Bool) (rest : List PollEntry),
    (d.sendPoll o).bus.exchange = some x → o.owner = .pollLine i sweep followUp → o.verb = .poll →
    d.scan.pollList = .line i sweep followUp :: rest → (∀ p ∈ rest, p.isLine i = false) →
    (sweep = true → ∀ w : Sweep, d.scan.sweep = some w → ∀ m ∈ w.members, m.1 = i → m.2 = .outstanding) →
    let t := (d.sendPoll o).loseArbitration x
    t.bus.engine = .idle ∧ t.bus.nextAction = d.bus.nextAction ∧ t.bus.rotation = d.bus.rotation ∧
    t.bus.pollRun = d.bus.pollRun ∧ t.scan = d.scan ∧ t.lines = d.lines ∧ t.bridge = d.bridge ∧ t.trig = d.trig ∧
    t.quay = d.quay) ∧
  (∀ (d : Device) (o : Offer) (x : Exchange) (st : StationId) (rest : List PollEntry),
    (d.sendPoll o).bus.exchange = some x → o.owner = .probe st → o.verb = .poll →
    d.scan.pollList = .probe st :: rest → (∀ p ∈ rest, p.isProbe st = false) →
    let t := (d.sendPoll o).loseArbitration x
    t.bus.engine = .idle ∧ t.bus.nextAction = d.bus.nextAction ∧ t.bus.rotation = d.bus.rotation ∧
    t.bus.pollRun = d.bus.pollRun ∧
    t.scan = d.scan ∧ t.lines = d.lines ∧ t.bridge = d.bridge ∧ t.trig = d.trig ∧ t.quay = d.quay) ∧
  (∀ (d : Device) (o : Offer) (x : Exchange) (e : EntryId), (d.send o).bus.exchange = some x → o.owner = .stopAll e →
    (d.send o).loseArbitration x = { d with bus := { d.bus with
      engine := .idle, exchange := none, window := none, response := none } }) ∧
  (∀ (d : Device) (x : Exchange), x.detached = true →
    d.loseArbitration x = { d with bus := { d.bus with
      engine := .idle, exchange := none, window := none, response := none
      nextAction := match x.station with
        | some st => put d.bus.nextAction st x.undo.nextAction
        | none => d.bus.nextAction
      rotation := x.undo.rotation, pollRun := x.undo.pollRun } })

/-- The last character of a frame: a single-station frame starts the response window (R112); a broadcast ends its
exchange at once, every target of its record succeeds and the record is delivered, and no station's count moves
(R96, R118) (model's choice, out of place: log entry 3). -/
def Obligations.LastCharacters : Prop :=
  (∀ (s : State) (x : Exchange) (st : StationId), s.dev.bus.engine = .sending → s.dev.bus.exchange = some x →
    x.station = some st →
    exec .lastCharacterSent s = .next (s.onDevice fun d => { d with bus := { d.bus with
      engine := .awaitingResponse, window := some d.quay.link.window, response := none } }.settle)) ∧
  (∀ (s : State) (x : Exchange) (e : EntryId) (r : ActionRecord), s.dev.bus.engine = .sending →
    s.dev.bus.exchange = some x → x.station = none → x.owner = .stopAll e →
    s.dev.trig.actions.find? (fun r => decide (r.entry = e)) = some r →
    exec .broadcastSent s = .next (s.onDevice fun d =>
      ({ d with bus := { d.bus with engine := .idle, exchange := none, window := none, response := none } }.deliver
        { r with targets := r.targets.map fun (y : Target) => { y with state := TargetState.succeeded } }).settle)) ∧
  (∀ (d : Device) (x : Exchange), (d.endBroadcast x).stations = d.stations) ∧
  (∀ s : State, s.dev.bus.engine ≠ .sending →
    exec .lastCharacterSent s = .next (s.onDevice Device.settle) ∧
    exec .broadcastSent s = .next (s.onDevice Device.settle))

/-- The three silent ends (R112, R114, R115): the engine is IDLE and the silence is taken by the owner and the Station
Monitor in the order given, for a command frame and for a POLL; the owner takes nothing of a detached exchange, and not
the attempt when the same silence brings the drop-out (R58, R65, R72, R95, R147). A broadcast that reads back wrong counts
as sent. The missed-response count (R116, R139): a silence raises it by one, at most to 15; a PRESENT station whose count
reaches its limit drops out, an ABSENT one never; a valid response sets it to 0 (model's choices: the window's expiry acts
for every time left, log entry 2; the open order, log entry 8; the broadcast, log entry 17). -/
def Obligations.SilentEndsOfAnExchange : Prop :=
  (∀ (s : State) (x : Exchange) (st : StationId) (order : SilenceOrder), s.dev.bus.engine = .sending →
    s.dev.bus.exchange = some x → x.station = some st →
    exec (.readBackMismatch order) s = .next (s.onDevice fun d => (d.engineIdle.endSilent x st order).settle)) ∧
  (∀ (s : State) (x : Exchange) (order : SilenceOrder), s.dev.bus.engine = .sending →
    s.dev.bus.exchange = some x → x.station = none →
    exec (.readBackMismatch order) s = exec .broadcastSent s) ∧
  (∀ (s : State) (x : Exchange) (st : StationId) (order : SilenceOrder) (cs : List Byte),
    s.dev.bus.engine = .awaitingResponse → s.dev.bus.exchange = some x → x.station = some st →
    s.dev.bus.response = some cs →
    exec (.responseBroken order) s = .next (s.onDevice fun d => (d.engineIdle.endSilent x st order).settle)) ∧
  (∀ (s : State) (x : Exchange) (st : StationId) (order : SilenceOrder) (ms : Nat),
    s.dev.bus.engine = .awaitingResponse → s.dev.bus.exchange = some x → x.station = some st →
    s.dev.bus.window = some ms →
    exec (.responseWindowExpires order) s = .next (s.onDevice fun d => (d.engineIdle.endSilent x st order).settle)) ∧
  (∀ (d : Device) (x : Exchange) (st : StationId),
    d.endSilent x st .ownerFirst = (d.ownerSilence x d.stations[st].atLimit).monitorSilence st ∧
    d.endSilent x st .monitorFirst = (d.monitorSilence st).ownerSilence x d.stations[st].atLimit) ∧
  (∀ (d : Device) (x : Exchange) (lost : Bool),
    (x.detached = true → d.ownerSilence x lost = d) ∧
    (x.detached = false → d.ownerSilence x true = d.pollEnd x.owner false) ∧
    (x.detached = false → d.ownerSilence x false = (d.commandEnd x.owner .silence).pollEnd x.owner false)) ∧
  (∀ (d : Device) (st : StationId),
    d.stations[st].presence = .absent ∨ min 15 (d.stations[st].missed + 1) < d.stations[st].missedLimit →
    d.stations[st].atLimit = false ∧
    d.monitorSilence st = d.setStation st { d.stations[st] with missed := min 15 (d.stations[st].missed + 1) }) ∧
  (∀ (d : Device) (st : StationId),
    d.stations[st].presence = .present → d.stations[st].missedLimit ≤ min 15 (d.stations[st].missed + 1) →
    d.stations[st].atLimit = true ∧
    d.monitorSilence st =
      (d.setStation st { d.stations[st] with missed := min 15 (d.stations[st].missed + 1) }).dropOut st) ∧
  (∀ (d : Device) (st : StationId) (a : Answer), (d.monitorResponse st a).stations[st].missed = 0)

/-- RESPONSE_FIRST_CHARACTER and RESPONSE_COMPLETE (R114, R115): a first character of a longer response stops the window; a
complete response is checked, a valid one is taken by the Station Monitor and then by the frame's owner, any other is
silence. Two characters with the station's address and a good CRC-8 are an ACK to a command frame and a NAK to either
kind; an ACK to a POLL, a bad CRC-8 and another address are no answer (R161). Nine characters of kind STATUS with the drum
and the sample kind that the POLL asked for are a STATUS, whose fields they give; to a command frame, with another drum or
another kind they are no answer; a response of kind 0 ends at its first character. What the Station Monitor does with a valid
response (R138, R147 to R149), what each owner does with an ACK, a NAK or a silence (R56, R64, R72, R95, R78, R147, R148),
and that a STATUS goes to the Line Table (R11) (model's choices: a silence is taken in the order that the command
carries, log entry 8; motion code 3, log entry 9; bits that R161 gives as 0 are not looked at, log entry 20; LINE_FAULT
before TRIGGER_DELIVERED, log entry 22; PARK_CHANGE at every ACK of a PARK, and no last answer recorded on a slot's last
attempt, log entry 27). -/
def Obligations.ResponsesToThePart : Prop :=
  (∀ (s : State) (x : Exchange) (st : StationId) (c : Byte) (order : SilenceOrder),
    s.dev.bus.engine = .awaitingResponse → s.dev.bus.exchange = some x → x.station = some st →
    s.dev.bus.response = none → 1 < responseLength c →
    exec (.responseFirstCharacter c order) s = .next (s.onDevice fun d =>
      { d with bus := { d.bus with window := none, response := some [c] } }.settle)) ∧
  (∀ (s : State) (x : Exchange) (st : StationId) (c : Byte) (rest cs : List Byte) (a : Answer) (order : SilenceOrder),
    s.dev.bus.engine = .awaitingResponse → s.dev.bus.exchange = some x → x.station = some st →
    s.dev.bus.response.getD [] ++ cs = c :: rest → (c :: rest).length = responseLength c →
    readAnswer x.frame.asked (c :: rest) s.dev.freeCount = some a →
    exec (.responseComplete cs order) s = .next (s.onDevice fun d =>
      let d := if usesReservedMotion (c :: rest) then { d with freeCount := d.freeCount + 1 } else d
      ((d.engineIdle.monitorResponse st a).ownerTakes x st a).settle)) ∧
  (∀ (s : State) (x : Exchange) (st : StationId) (c : Byte) (rest cs : List Byte) (order : SilenceOrder),
    s.dev.bus.engine = .awaitingResponse → s.dev.bus.exchange = some x → x.station = some st →
    s.dev.bus.response.getD [] ++ cs = c :: rest → (c :: rest).length = responseLength c →
    readAnswer x.frame.asked (c :: rest) s.dev.freeCount = none →
    exec (.responseComplete cs order) s = .next (s.onDevice fun d => (d.engineIdle.endSilent x st order).settle)) ∧
  (∀ (q : Asked) (n : Nat), 1 ≤ q.dest → q.dest ≤ 16 → q.poll = false →
    let c : Byte := BitVec.ofNat 8 (q.dest + 32)
    readAnswer q [c, crc8 [c]] n = some .ack) ∧
  (∀ (q : Asked) (n : Nat), 1 ≤ q.dest → q.dest ≤ 16 →
    let c : Byte := BitVec.ofNat 8 (q.dest + 64)
    readAnswer q [c, crc8 [c]] n = some .nak) ∧
  (∀ (q : Asked) (n : Nat), 1 ≤ q.dest → q.dest ≤ 16 → q.poll = true →
    let c : Byte := BitVec.ofNat 8 (q.dest + 32)
    readAnswer q [c, crc8 [c]] n = none) ∧
  (∀ (q : Asked) (c k : Byte) (n : Nat), k ≠ crc8 [c] → readAnswer q [c, k] n = none) ∧
  (∀ (q : Asked) (c : Byte) (rest : List Byte) (n : Nat), c.toNat % 32 ≠ q.dest → readAnswer q (c :: rest) n = none) ∧
  -- the length of a response, kind 0, and a STATUS
  (∀ c : Byte, responseLength c = match c.toNat / 32 % 4 with | 0 => 1 | 3 => 9 | _ => 2) ∧
  (∀ (s : State) (x : Exchange) (st : StationId) (c : Byte) (order : SilenceOrder),
    s.dev.bus.engine = .awaitingResponse → s.dev.bus.exchange = some x → x.station = some st →
    s.dev.bus.response = none → c.toNat / 32 % 4 = 0 →
    exec (.responseFirstCharacter c order) s =
      .next (s.onDevice fun d => (d.engineIdle.endSilent x st order).settle)) ∧
  (∀ f : BusFrame, f.dest < 32 → f.asked =
    { dest := f.dest, drum := (match f.drum with | .a => 0 | .b => 1)
      kind := (match f.kind with | .normal => 0 | .checkHigh => 1 | .checkLow => 2), poll := decide (f.verb = .poll) }) ∧
  (∀ (q : Asked) (c0 c1 c2 c3 c4 c5 c6 c7 : Byte) (kind : SampleKind) (n : Nat),
    c0.toNat / 32 % 4 = 3 → c0.toNat % 32 = q.dest → q.poll = true → c1.toNat % 2 = q.drum → c1.toNat / 2 % 4 = q.kind →
    q.kind = (match kind with | .normal => 0 | .checkHigh => 1 | .checkLow => 2) →
    readAnswer q [c0, c1, c2, c3, c4, c5, c6, c7, crc8 [c0, c1, c2, c3, c4, c5, c6, c7]] n = some (.status
      { drum := if c1.getLsbD 0 = true then .b else .a
        kind := kind
        latch := (match c1.toNat / 8 % 4 with | 0 => .open_ | 1 => .closed | 2 => .moving | _ => .jammed)
        brake := if c1.getLsbD 5 = true then .free else .set
        drive := if c1.getLsbD 6 = true then .driveFault else .ok
        action := Fin.ofNat 16 c2.toNat
        status := (match c2.toNat / 16 % 4 with | 0 => .idle | 1 => .busy | 2 => .done | _ => .failed)
        motion := (match c2.toNat / 64 with
          | 0 => .stopped
          | 1 => .heaving
          | 2 => .paying
          | _ => (match (Config.reservedMotion n).val with | 0 => .stopped | 1 => .heaving | _ => .paying))
        resetDone := c3.getLsbD 0
        parked := c3.getLsbD 1
        length := 256 * c4.toNat + c5.toNat
        raw := (256 * c6.toNat + c7.toNat) % 4096 })) ∧
  (∀ (q : Asked) (c0 c1 : Byte) (rest : List Byte) (n : Nat), c0.toNat / 32 % 4 = 3 →
    (q.poll = false ∨ c1.toNat % 2 ≠ q.drum ∨ c1.toNat / 2 % 4 ≠ q.kind ∨ c1.toNat / 2 % 4 = 3 ∨
      rest.length ≠ 7 ∨ crc8 (c0 :: c1 :: rest.take 6) ≠ rest.getD 6 0) →
    readAnswer q (c0 :: c1 :: rest) n = none) ∧
  -- the Station Monitor: presence, reset, park and drive, and one STATION_CHANGE
  (∀ (d : Device) (st : StationId) (a : Answer),
    let r := d.stations[st]
    let t := d.monitorResponse st a
    let gains := decide (r.presence = .absent) && r.enabled && decide (r.power = .on)
    let done := match a with | .status rep => rep.resetDone && r.resetting | _ => false
    let held := (d.stationOperation st).isSome
    let parked := match a with | .status rep => rep.parked | _ => r.parked
    let driveA := match a with | .status rep => if rep.drum = .a then rep.drive else r.driveA | _ => r.driveA
    let driveB := match a with | .status rep => if rep.drum = .b then rep.drive else r.driveB | _ => r.driveB
    let fault := decide (driveA = .driveFault) || decide (driveB = .driveFault)
    t.stations[st] = { r with
      missed := 0, presence := if gains then .present else r.presence, resetting := r.resetting && !done
      outcome := if done && held then some (.reset, .acked) else r.outcome
      parked := parked, driveA := driveA, driveB := driveB
      flags := { r.flags with
        presence := r.flags.presence || gains, reset := r.flags.reset || done,
        park := r.flags.park || (parked != r.parked), fault := r.flags.fault || (fault != r.driveFault) } } ∧
    (∀ st' : StationId, st' ≠ st → t.stations[st'] = d.stations[st']) ∧
    (∀ i : LineId, t.lines[i] =
      if (gains || done) = true ∧ d.lines[i].onStation st = true then { d.lines[i] with resync := true }
      else d.lines[i]) ∧
    t.bus.nextAction = (if done then put d.bus.nextAction st 0 else d.bus.nextAction) ∧
    t.bus.stationSource =
      (if done then d.bus.stationSource.filter (fun y => !y.isOpFor st) else d.bus.stationSource) ∧
    ((gains || (parked != r.parked)) = true → t.scan.probe[st].isSome = t.stations[st].probeDue) ∧
    ((gains || (parked != r.parked)) = false → t.scan = d.scan) ∧
    t.quay = (d.queueEvents (stationChanges st r.flags t.stations[st])).quay ∧
    t.tend = d.tend ∧ t.bridge = d.bridge ∧ t.trig = d.trig ∧ t.hold = d.hold) ∧
  -- the owner of the frame
  (∀ (d : Device) (x : Exchange) (st : StationId),
    (∀ a : Answer, x.detached = true → d.ownerTakes x st a = d) ∧
    (x.detached = false →
      d.ownerTakes x st .ack = (d.commandEnd x.owner .ack).pollEnd x.owner false ∧
      d.ownerTakes x st .nak = (d.commandEnd x.owner .nak).pollEnd x.owner false ∧
      ∀ rep : Report, d.ownerTakes x st (.status rep) = (d.stationReport st rep).pollEnd x.owner true)) ∧
  (∀ (d : Device) (i : LineId) (y : TendEntry), d.tend.find? (fun y => decide (y.line = i)) = some y →
    let gone : Device := { d with tend := d.tend.filter fun y => decide (y.line ≠ i) }
    d.commandEnd (.tend i) .ack = gone ∧
    ∀ a : CommandEnd, a ≠ .ack → d.commandEnd (.tend i) a =
      if y.attempts < d.quay.link.retry then
        { d with tend := d.tend.map fun (y : TendEntry) =>
            if y.line = i then { y with sent := false } else y }.recheckTend i
      else gone.queueEvent (.tendUndelivered i y.direction y.step y.attempts (if a = .nak then .nak else .silence))) ∧
  (∀ (d : Device) (p : PostedEntry) (ps : List PostedEntry), d.bridge.posted = p :: ps →
    let gone : Device := { d with bridge := { d.bridge with posted := ps } }
    d.commandEnd .posted .ack = gone ∧
    ∀ a : CommandEnd, a ≠ .ack → d.commandEnd .posted a =
      if p.attempts < d.quay.link.retry then
        { d with bridge := { d.bridge with posted := { p with sent := false } :: ps } }
      else gone.queueEvent (.postedUndelivered p.line p.station p.verb p.arg p.attempts
        (if a = .nak then .nak else .noResponse))) ∧
  (∀ (d : Device) (k : SlotId) (c : SlotCommand), d.bridge.slots[k].command = some c →
    let x := d.bridge.slots[k]
    let l := d.lines[c.line].config
    let time := match c.verb with
      | .runOut => l.runOutTime * 1000
      | .rewind => l.rewindTime * 1000
      | .lock => l.lockTime * 100
      | .release => l.releaseTime * 100
    d.commandEnd (.confirmed k) .ack =
      (d.setSlot k { x with state := .awaiting, actionTimer := some time, lastAnswer := none }).syncFollowUp c.line ∧
    ∀ a : CommandEnd, a ≠ .ack → d.commandEnd (.confirmed k) a =
      if x.attempts < d.quay.link.retry then
        { d with bridge := { d.bridge with
          slots := put d.bridge.slots k { x with lastAnswer := some (if a = .nak then .nak else .silence) }
          retries := d.bridge.retries ++ [k] } }
      else d.endSlot k (if a = .nak then .refused else .noResponse)) ∧
  (∀ (d : Device) (e : EntryId) (i : LineId) (y : Target), d.targetOf e i = some y →
    let release := decide (d.trig.entries[e].action = .release)
    let mark (s : TargetState) := d.updTarget e i fun y => { y with state := s }
    d.commandEnd (.trigger e i) .ack =
      (if release && d.lines[i].triggerInFlight.isSome then
        { mark .succeeded with trig := { (mark .succeeded).trig with
          releaseTimers := put d.trig.releaseTimers i (some (d.lines[i].config.releaseTime * 100)) } }
      else mark .succeeded).deliverComplete ∧
    ∀ a : CommandEnd, a ≠ .ack → d.commandEnd (.trigger e i) a =
      if y.attempts < d.quay.link.retry then mark .waiting
      else (if release then (mark .failed).endRelease i false else mark .failed).deliverComplete) ∧
  (∀ (d : Device) (x : StationItem) (xs : List StationItem), d.bus.stationSource = x :: xs →
    let gone : Device := { d with bus := { d.bus with stationSource := xs } }
    (∀ drum : Drum, x.frame = .stop drum →
      d.commandEnd .station .ack = gone ∧
      ∀ a : CommandEnd, a ≠ .ack →
        d.commandEnd .station a = if x.attempts < d.quay.link.retry then d else gone) ∧
    (∀ op : StationOp, x.frame = .op op →
      d.commandEnd .station .ack = d.operationAcked x.station op ∧
      ∀ a : CommandEnd, a ≠ .ack →
        d.commandEnd .station a =
          if x.attempts < d.quay.link.retry then d else d.operationNotTaken x.station op)) ∧
  (∀ (d : Device) (st : StationId) (op : StationOp), let r := d.stations[st]
    (let t := d.operationAcked st op
     t.stations[st] = { r with
      outcome := some (op, .acked), parked := r.parked || decide (op = .park)
      flags := { r.flags with park := r.flags.park || decide (op = .park) } } ∧
     t.bus.stationSource = d.bus.stationSource.filter (fun y => !y.isOpFor st) ∧
     (op = .park → t.scan.probe[st].isSome = t.stations[st].probeDue) ∧ (op ≠ .park → t.scan = d.scan) ∧
     t.quay = (d.queueEvents (stationChanges st r.flags t.stations[st])).quay ∧
     t.lines = d.lines ∧ t.tend = d.tend ∧ t.bridge = d.bridge ∧ t.trig = d.trig) ∧
    (let t := d.operationNotTaken st op
     t.stations[st] = { r with
      outcome := some (op, .notTaken), resetting := r.resetting && decide (op ≠ .reset)
      flags := { r.flags with
        park := r.flags.park || decide (op ≠ .reset), reset := r.flags.reset || decide (op = .reset) } } ∧
     t.bus.stationSource = d.bus.stationSource.filter (fun y => !y.isOpFor st) ∧
     t.quay = (d.queueEvents (stationChanges st r.flags t.stations[st])).quay ∧
     t.lines = d.lines ∧ t.tend = d.tend ∧ t.bridge = d.bridge ∧ t.trig = d.trig ∧ t.scan = d.scan)) ∧
  (∀ (d : Device) (i : LineId) (st : StationId) (sweep followUp : Bool) (a : CommandEnd),
    d.commandEnd (.pollLine i sweep followUp) a = d ∧ d.commandEnd (.probe st) a = d) ∧
  (∀ (d : Device) (o : FrameOwner) (received : Bool),
    (∀ (i : LineId) (f : Bool), o = .pollLine i true f → d.pollEnd o received = d.memberDone i received) ∧
    ((∀ (i : LineId) (f : Bool), o ≠ .pollLine i true f) → d.pollEnd o received = d))

/-! ### The observer and Local Control -/

/-- The observer's plain moves (R119, R121) (model's choices: the window's expiry acts for every time left, log entry 2; out
of place, log entry 3). -/
def Obligations.ObserverMoves : Prop :=
  (∀ (s : State) (c : Byte), s.dev.bus.engine = .idle → s.dev.bus.observer = .quiet →
    exec (.observedTrafficStarts c) s = .next (s.onDevice fun d =>
      (d.setObserver (if isPendantChar c then .pendantFrame [c] else .foreign false)).settle)) ∧
  (∀ (s : State) (cs : List Byte) (w : Timer), s.dev.bus.observer = .pendantWindow cs w →
    exec .pendantWindowExpires s = .next (s.onDevice fun d => (d.setObserver .quiet).settle)) ∧
  (∀ (s : State) (cs : List Byte) (w : Timer) (c : Byte), s.dev.bus.observer = .pendantWindow cs w →
    1 < responseLength c →
    exec (.pendantResponseStarts c) s = .next (s.onDevice fun d =>
      (d.setObserver (.pendantResponse cs [c])).settle)) ∧
  (∀ (s : State), (∃ cs, s.dev.bus.observer = .pendantFrame cs) ∨
      (∃ f cs, s.dev.bus.observer = .pendantResponse f cs) ∨ s.dev.bus.observer = .foreign false →
    exec .observerLineQuiet s = .next (s.onDevice fun d => (d.setObserver .quiet).settle)) ∧
  (∀ s : State, s.dev.bus.observer = .foreign true →
    exec .busQuietAfterReset s = .next (s.onDevice fun d => (d.setObserver .quiet).settle) ∧
    exec .observerLineQuiet s = .next (s.onDevice Device.settle))

/-- PENDANT_FRAME_OBSERVED (R119, R120): the seven characters of a pendant frame; what a broadcast STOP does (R153, R24,
R15, R16) and what a HAND BACK does (R155, R24) (model's choices: the open order and other frames, log entries 8, 18; a
broadcast's LOCAL_TAKEN names every assigned line, log entry 31). -/
def Obligations.PendantFrames : Prop :=
  (∀ (s : State) (got cs : List Byte) (order : FreeOrder), s.dev.bus.observer = .pendantFrame got →
    (got ++ cs).length = 7 →
    let f := got ++ cs
    let dest := (f.getD 1 0).toNat % 32
    exec (.pendantFrameObserved cs order) s = .next (s.onDevice fun d =>
      Device.settle (
        if crc8 (f.take 6) ≠ f.getD 6 0 then d.setObserver .quiet
        else if 1 ≤ dest ∧ dest ≤ 16 then d.setObserver (.pendantWindow f (some d.quay.link.window))
        else if dest = 31 ∧ f.getD 2 0 = 0x08 then
          match order with
          | .endingFirst => (d.setObserver .quiet).broadcastStop
          | .choiceFirst => (d.setObserver .quiet).choose.broadcastStop
        else if dest = 30 ∧ f.getD 2 0 = 0x0C then
          match order with
          | .endingFirst => (d.setObserver .quiet).handBack (word16 (f.getD 4 0) (f.getD 5 0))
          | .choiceFirst => (d.setObserver .quiet).choose.handBack (word16 (f.getD 4 0) (f.getD 5 0))
        else d.setObserver .quiet))) ∧
  (∀ d : Device, let t := d.broadcastStop
    (∀ st : StationId, t.hold[st] = some (d.quay.link.hold * 10000)) ∧
    (∀ i : LineId, (∀ k : SlotId, d.bridge.slots[k].live = true → d.bridge.slots[k].forLine i = false) →
      t.lines[i] = if d.lines[i].binding = none then d.lines[i] else d.lines[i].taken) ∧
    (∀ (k : SlotId) (c : SlotCommand), d.bridge.slots[k].command = some c → d.bridge.slots[k].live = true →
      (∀ j : SlotId, j ≠ k → d.bridge.slots[j].live = true → d.bridge.slots[j].forLine c.line = false) →
      d.lines[c.line].binding ≠ none →
      t.lines[c.line] = d.lines[c.line].taken.preempted c d.bridge.slots[k].state) ∧
    (∀ k : SlotId, d.bridge.slots[k].live = true → d.bridge.slots[k].command ≠ none →
      t.bridge.slots[k].state = .complete ∧ t.bridge.slots[k].result = some .preempted) ∧
    (∀ k : SlotId, d.bridge.slots[k].live = false → t.bridge.slots[k] = d.bridge.slots[k]) ∧
    (∀ y ∈ t.tend, d.lines[y.line].state ≠ .tending ∨ d.lines[y.line].binding = none) ∧
    t.quay = (d.queueEvents (if ∃ st : StationId, d.hold[st] = none
      then [.localTaken none (setOf (all16.filter fun (i : LineId) => decide (d.lines[i].binding ≠ none))) 0x08]
      else [])).quay ∧
    t.bridge.posted = d.bridge.posted ∧ t.stations = d.stations ∧ t.trig = d.trig) ∧
  (∀ (d : Device) (arg : Word16), let t := d.handBack arg
    let back (st : StationId) := (d.hold[st].isSome && (decide (arg.toNat = 31) || decide (arg.toNat = number st)))
    (∀ st : StationId, t.hold[st] = if back st = true then none else d.hold[st]) ∧
    (∀ i : LineId, t.lines[i] =
      if (∃ st : StationId, back st = true ∧ d.lines[i].onStation st = true) ∧ d.lines[i].owner = .localOwner
      then { d.lines[i] with owner := .quay, resync := true } else d.lines[i]) ∧
    t.quay = (d.queueEvents ((all16.filter back).map fun (st : StationId) =>
      .localReturned st .handBack (setOf (d.linesOf st)))).quay ∧
    t.tend = d.tend ∧ t.bridge = d.bridge ∧ t.trig = d.trig ∧ t.scan = d.scan ∧ t.bus = d.bus ∧
    t.stations = d.stations)

/-- PENDANT_RESPONSE_OBSERVED (R119, R152), in the window or with the first characters taken already: a valid answer to the
pendant is a takeover of the addressed station, any other is none (model's choice, the open order: log entry 8). -/
def Obligations.PendantAnswers : Prop :=
  (∀ (s : State) (f cs : List Byte) (w : Timer) (c : Byte) (rest : List Byte) (a : Answer) (st : StationId)
      (order : FreeOrder), s.dev.bus.observer = .pendantWindow f w → cs = c :: rest →
    cs.length = responseLength c → readAnswer (askedOf f) cs s.dev.freeCount = some a →
    (askedOf f).dest = number st →
    exec (.pendantResponseObserved cs order) s = .next (s.onDevice fun d =>
      match order with
      | .endingFirst => ((d.setObserver .quiet).takeover st (f.getD 2 0)).settle
      | .choiceFirst => ((d.setObserver .quiet).choose.takeover st (f.getD 2 0)).settle)) ∧
  (∀ (s : State) (f cs : List Byte) (w : Timer) (c : Byte) (rest : List Byte) (order : FreeOrder),
    s.dev.bus.observer = .pendantWindow f w → cs = c :: rest → cs.length = responseLength c →
    readAnswer (askedOf f) cs s.dev.freeCount = none →
    exec (.pendantResponseObserved cs order) s = .next (s.onDevice fun d => (d.setObserver .quiet).settle)) ∧
  (∀ (s : State) (f got cs : List Byte) (c : Byte) (rest : List Byte) (a : Answer) (st : StationId)
      (order : FreeOrder), s.dev.bus.observer = .pendantResponse f got → got ++ cs = c :: rest →
    (got ++ cs).length = responseLength c → readAnswer (askedOf f) (got ++ cs) s.dev.freeCount = some a →
    (askedOf f).dest = number st →
    exec (.pendantResponseObserved cs order) s = .next (s.onDevice fun d =>
      match order with
      | .endingFirst => ((d.setObserver .quiet).takeover st (f.getD 2 0)).settle
      | .choiceFirst => ((d.setObserver .quiet).choose.takeover st (f.getD 2 0)).settle)) ∧
  (∀ (s : State) (f got cs : List Byte) (c : Byte) (rest : List Byte) (order : FreeOrder),
    s.dev.bus.observer = .pendantResponse f got → got ++ cs = c :: rest →
    (got ++ cs).length = responseLength c → readAnswer (askedOf f) (got ++ cs) s.dev.freeCount = none →
    exec (.pendantResponseObserved cs order) s = .next (s.onDevice fun d => (d.setObserver .quiet).settle))

/-- A takeover (R152, R24, R15): the hold timer restarts at the hold time; each assigned line of the station is LOCAL, and
LOCKED if it was TENDING, with its tend request gone; every QUEUED slot of the station is COMPLETE with PREEMPTED and its
line back in the state before the command, LOCKED in place of TENDING; the other slots, lines and stations are left alone;
LOCAL_TAKEN is queued only if the timer was stopped. -/
def Obligations.TakeoverOfAStation : Prop :=
  ∀ (d : Device) (st : StationId) (verb : Byte), let t := d.takeover st verb
    let waits (k : SlotId) :=
      decide (d.bridge.slots[k].state = .queued) && d.slotOnStation st d.bridge.slots[k]
    t.hold[st] = some (d.quay.link.hold * 10000) ∧
    (∀ st' : StationId, st' ≠ st → t.hold[st'] = d.hold[st']) ∧
    (∀ i : LineId, d.lines[i].onStation st = true →
      (∀ k : SlotId, waits k = true → d.bridge.slots[k].forLine i = false) → t.lines[i] = d.lines[i].taken) ∧
    (∀ (k : SlotId) (c : SlotCommand), waits k = true → d.bridge.slots[k].command = some c →
      (∀ j : SlotId, j ≠ k → waits j = true → d.bridge.slots[j].forLine c.line = false) →
      t.lines[c.line] = d.lines[c.line].taken.preempted c .queued) ∧
    (∀ i : LineId, d.lines[i].onStation st = true → t.lines[i].owner = .localOwner) ∧
    (∀ i : LineId, d.lines[i].onStation st = false → t.lines[i] = d.lines[i]) ∧
    (∀ k : SlotId, waits k = true →
      t.bridge.slots[k].state = .complete ∧ t.bridge.slots[k].result = some .preempted) ∧
    (∀ k : SlotId, waits k = false → t.bridge.slots[k] = d.bridge.slots[k]) ∧
    (∀ i : LineId, d.lines[i].onStation st = true → d.lines[i].state = .tending → ∀ y ∈ t.tend, y.line ≠ i) ∧
    t.stations = d.stations ∧ t.bridge.posted = d.bridge.posted ∧ t.trig = d.trig ∧
    (d.hold[st].isSome → t.quay = d.quay) ∧
    (d.hold[st] = none → t.quay = (d.queueEvent (.localTaken (some st) (setOf (d.linesOf st)) verb)).quay)

/-- LOCAL_HOLD_TIMER_EXPIRES (R154, R24): the station is returned, each of its LOCAL lines is QUAY with resync pending,
and LOCAL_RETURNED is queued. POWER_GOOD_TIMER_EXPIRES (R143): the power is ON and the Scan Unit is told
(model's choice, when an expiry acts: log entries 2, 3). What the Scan Unit does when it is told (R132): a station that has
become due for probes is probed at once and its probe timer starts, and one due no more has its timer stopped. -/
def Obligations.HoldAndPowerGoodExpiries : Prop :=
  (∀ (s : State) (st : StationId) (ms : Nat), s.dev.hold[st] = some ms → ∃ d : Device,
    exec (.localHoldTimerExpires st) s = .next (s.onDevice fun _ => d.settle) ∧
    (∀ i : LineId, d.lines[i] =
      if s.dev.lines[i].onStation st = true ∧ s.dev.lines[i].owner = .localOwner
      then { s.dev.lines[i] with owner := .quay, resync := true } else s.dev.lines[i]) ∧
    d.hold = put s.dev.hold st none ∧
    d.quay = (s.dev.queueEvent (.localReturned st .timeout (setOf (s.dev.linesOf st)))).quay ∧
    d.tend = s.dev.tend ∧ d.bridge = s.dev.bridge ∧ d.trig = s.dev.trig ∧ d.scan = s.dev.scan ∧ d.bus = s.dev.bus ∧
    d.stations = s.dev.stations ∧ d.freeCount = s.dev.freeCount) ∧
  (∀ (s : State) (st : StationId), s.dev.hold[st] = none →
    exec (.localHoldTimerExpires st) s = .next (s.onDevice Device.settle)) ∧
  (∀ (s : State) (st : StationId) (ms : Nat), s.dev.stations[st].powerGood = some ms →
    exec (.powerGoodTimerExpires st) s = .next (s.onDevice fun d =>
      ((d.setStation st { d.stations[st] with power := .on, powerGood := none }).syncProbe st).settle)) ∧
  (∀ (s : State) (st : StationId), s.dev.stations[st].powerGood = none →
    exec (.powerGoodTimerExpires st) s = .next (s.onDevice Device.settle)) ∧
  (∀ r : StationRecord, r.probeDue = true ↔
    r.power = .on ∧ r.enabled = true ∧ (r.presence = .absent ∨ r.parked = true)) ∧
  (∀ (d : Device) (st : StationId),
    (d.stations[st].probeDue = true → d.scan.probe[st] = none → d.syncProbe st = { d with scan := { d.scan with
      pollList := if .probe st ∈ d.scan.pollList then d.scan.pollList else d.scan.pollList ++ [.probe st]
      probe := put d.scan.probe st (some 1000) } }) ∧
    (d.stations[st].probeDue = true → d.scan.probe[st].isSome = true → d.syncProbe st = d) ∧
    (d.stations[st].probeDue = false →
      d.syncProbe st = { d with scan := { d.scan with probe := put d.scan.probe st none } }))

/-! ### Scan, slot, release and input timers -/

/-- The probe timer (R132), the follow-up timer (R133) and the interval timer (R128, R134), and what an expiry of the
interval may start: the applying of a configuration (R124), a sweep with its members (R125), and the working and the end
of a sweep (R126) (model's choice, when an expiry acts: log entry 2). -/
def Obligations.ScanTimerExpiries : Prop :=
  (∀ (s : State) (st : StationId) (ms : Nat), s.dev.scan.probe[st] = some ms → s.dev.stations[st].probeDue = true →
    exec (.probeTimerExpires st) s = .next (s.onDevice fun d =>
      { d with scan := { d.scan with
        pollList := addProbe d.scan.pollList st, probe := put d.scan.probe st (some 1000) } }.settle)) ∧
  (∀ (s : State) (i : LineId) (ms : Nat), s.dev.scan.followUp[i] = some ms → s.dev.followUpDue i = true →
    exec (.followUpTimerExpires i) s = .next (s.onDevice fun d =>
      { d with scan := { d.scan with
        pollList := addLine d.scan.pollList i false true, followUp := put d.scan.followUp i (some 100) } }.settle)) ∧
  (∀ (s : State) (ms : Nat) (w : Sweep), s.dev.scan.intervalTimer = some ms → s.dev.scan.sweep = some w →
    s.dev.scan.config.mode.repeats = true → s.dev.scan.sweepDue = false →
    exec .intervalTimerExpires s = .next (s.onDevice fun d =>
      ({ d with scan := { d.scan with
        intervalTimer := some (d.scan.config.interval * 10), sweepDue := true } }.queueEvent
        (.scanOverrun d.scan.config.mode
          (w.members.countP fun (p : LineId × MemberState) => decide (p.2 ≠ MemberState.done)))).settle)) ∧
  (∀ (s : State) (ms : Nat) (w : Sweep), s.dev.scan.intervalTimer = some ms → s.dev.scan.sweep = some w →
    s.dev.scan.config.mode.repeats = true → s.dev.scan.sweepDue = true →
    exec .intervalTimerExpires s = .next (s.onDevice fun d =>
      { d with scan := { d.scan with intervalTimer := some (d.scan.config.interval * 10) } }.settle)) ∧
  (∀ (s : State) (ms : Nat), s.dev.scan.intervalTimer = some ms → s.dev.scan.sweep = none →
    s.dev.scan.config.mode.repeats = true → s.dev.scan.pending = none →
    exec .intervalTimerExpires s = .next (s.onDevice fun d =>
      ({ d with scan := { d.scan with intervalTimer := some (d.scan.config.interval * 10) } }.startSweep).settle)) ∧
  (∀ (s : State) (ms : Nat) (c : ScanConfig), s.dev.scan.intervalTimer = some ms → s.dev.scan.sweep = none →
    s.dev.scan.config.mode.repeats = true → s.dev.scan.pending = some c →
    exec .intervalTimerExpires s = .next (s.onDevice fun d =>
      ({ d with scan := { d.scan with intervalTimer := some (d.scan.config.interval * 10) } }.applyConfig c).settle)) ∧
  -- the interval that a soft reset starts in SINGLE and SWEEP
  (∀ (s : State) (ms : Nat), s.dev.scan.intervalTimer = some ms → s.dev.scan.sweep = none →
    s.dev.scan.config.mode = .single ∨ s.dev.scan.config.mode = .sweep → s.dev.scan.pending = none →
    exec .intervalTimerExpires s = .next (s.onDevice fun d =>
      ({ d with scan := { d.scan with intervalTimer := none } }.startSweep).settle)) ∧
  (∀ (s : State) (ms : Nat) (c : ScanConfig), s.dev.scan.intervalTimer = some ms → s.dev.scan.sweep = none →
    s.dev.scan.config.mode = .single ∨ s.dev.scan.config.mode = .sweep → s.dev.scan.pending = some c →
    exec .intervalTimerExpires s = .next (s.onDevice fun d =>
      ({ d with scan := { d.scan with intervalTimer := none } }.applyConfig c).settle)) ∧
  -- a need makes a line or a probe due
  (∀ (l : List PollEntry) (st : StationId), addProbe l st = if .probe st ∈ l then l else l ++ [.probe st]) ∧
  (∀ (l : List PollEntry) (i : LineId) (sweep followUp : Bool),
    ((∀ s f : Bool, PollEntry.line i s f ∉ l) → addLine l i sweep followUp = l ++ [.line i sweep followUp]) ∧
    ((∃ s f : Bool, PollEntry.line i s f ∈ l) → addLine l i sweep followUp = l.map fun p => match p with
      | .line j s f => if j = i then .line j (s || sweep) (f || followUp) else .line j s f
      | .probe st => .probe st)) ∧
  -- the follow-up timer's start and stop
  (∀ (d : Device) (i : LineId),
    (d.syncFollowUp i).scan = { d.scan with
      followUp := put d.scan.followUp i (
        if d.followUpDue i = false then none
        else if d.scan.followUp[i].isSome then d.scan.followUp[i] else some 100) } ∧
    (d.followUpDue i = true ↔ d.lines[i].triggerInFlight.isSome = true ∨
      ∃ k : SlotId, d.bridge.slots[k].state = .awaiting ∧ d.bridge.slots[k].forLine i = true)) ∧
  -- a configuration is applied
  (∀ (d : Device) (c : ScanConfig),
    let d' := { d with scan := { d.scan with config := c, pending := none, intervalTimer := none, sweepDue := false } }
    (c.mode = .off → d.applyConfig c = d') ∧
    (c.mode = .single ∨ c.mode = .sweep → d.applyConfig c = d'.startSweep) ∧
    (c.mode.repeats = true → d.applyConfig c =
      { d'.startSweep with scan := { d'.startSweep.scan with intervalTimer := some (c.interval * 10) } })) ∧
  -- the members of a sweep
  (∀ (d : Device) (i : LineId), let c := d.scan.config
    (c.mode = .off → d.sweepMembers = []) ∧
    (c.mode = .single ∨ c.mode = .repeat_ → (i ∈ d.sweepMembers ↔ i = c.target ∧ d.eligible i = true)) ∧
    (c.mode = .sweep ∨ c.mode = .repeatSweep →
      (i ∈ d.sweepMembers ↔ inSet c.scanSet i = true ∧ d.eligible i = true)) ∧
    (c.mode = .prioritySweep →
      (i ∈ d.sweepMembers ↔ (inSet c.prioritySet i = true ∧ d.eligible i = true) ∨ d.outsideLine = some i)) ∧
    d.sweepMembers.Pairwise (· < ·)) ∧
  (∀ (d : Device) (i : LineId), let c := d.scan.config
    let fits (j : LineId) := inSet c.scanSet j && !inSet c.prioritySet j && d.eligible j
    (d.outsideLine = some i ↔ fits i = true ∧
      ∀ j : LineId, fits j = true → (i - d.scan.pointer - 1).val ≤ (j - d.scan.pointer - 1).val)) ∧
  -- a sweep starts
  (∀ d : Device, let ms := d.sweepMembers
    let pointer := if d.scan.config.mode = .prioritySweep then d.outsideLine.getD d.scan.pointer else d.scan.pointer
    let w : Sweep := { members := ms.map fun i => (i, .outstanding), sent := 0, received := 0 }
    (ms ≠ [] → d.startSweep = { d with scan := { d.scan with
      pointer := pointer, sweep := some w
      pollList := ms.foldl (fun l i => addLine l i true false) d.scan.pollList } }) ∧
    (ms = [] → d.scan.config.mode.repeats = true →
      d.startSweep = { d with scan := { d.scan with pointer := pointer, sweep := none } }) ∧
    (ms = [] → d.scan.config.mode.repeats = false →
      d.startSweep = { d.queueEvent (.scanDone d.scan.config.mode 0 0) with scan := { d.scan with
        pointer := pointer, sweep := none, config := { d.scan.config with mode := .off } } })) ∧
  -- a member is worked, and the sweep finishes
  (∀ (d : Device) (i : LineId) (received : Bool) (w : Sweep), d.scan.sweep = some w →
    let w' : Sweep :=
      { w with
        members := w.members.map (fun (p : LineId × MemberState) => if p.1 = i then (p.1, .done) else p)
        received := w.received + (if received then 1 else 0) }
    let d' := { d with scan := { d.scan with sweep := some w' } }
    ((∃ p ∈ w'.members, p.2 ≠ .done) → d.memberDone i received = d') ∧
    ((∀ p ∈ w'.members, p.2 = .done) → d.memberDone i received = d'.finishSweep)) ∧
  (∀ (d : Device) (w : Sweep), d.scan.sweep = some w → d.scan.config.mode.repeats = false →
    let d' := { d.queueEvent (.scanDone d.scan.config.mode w.sent w.received) with
      scan := { d.scan with sweep := none, config := { d.scan.config with mode := .off } } }
    d.finishSweep = match d.scan.pending with
      | some c => d'.applyConfig c
      | none => d') ∧
  (∀ (d : Device) (w : Sweep), d.scan.sweep = some w → d.scan.config.mode.repeats = true →
    let d' := { d with scan := { d.scan with sweep := none } }
    (d.scan.sweepDue = false → d.finishSweep = d') ∧
    (d.scan.sweepDue = true → d.finishSweep = match d.scan.pending with
      | some c => d'.applyConfig c
      | none => { d' with scan := { d'.scan with sweepDue := false } }.startSweep))

/-- The action timer ends an AWAITING slot ACTION_TIMEOUT and nothing else (R74); the discard timer frees a COMPLETE
slot and queues COMPLETION_DISCARDED (R76); the release timer ends the trigger-driven release as failed (R100, R23)
(model's choice, when an expiry acts: log entries 2, 3). -/
def Obligations.SlotAndReleaseTimerExpiries : Prop :=
  (∀ (s : State) (k : SlotId) (ms : Nat), s.dev.bridge.slots[k].state = .awaiting →
    s.dev.bridge.slots[k].actionTimer = some ms →
    exec (.actionTimerExpires k) s = .next (s.onDevice fun d => (d.endSlot k .actionTimeout).settle)) ∧
  (∀ (s : State) (k : SlotId), s.dev.bridge.slots[k].state ≠ .awaiting →
    exec (.actionTimerExpires k) s = .next (s.onDevice Device.settle)) ∧
  (∀ (s : State) (k : SlotId) (c : SlotCommand) (res : SlotResult) (ms : Nat),
    s.dev.bridge.slots[k].discardTimer = some ms → s.dev.bridge.slots[k].command = some c →
    s.dev.bridge.slots[k].result = some res →
    exec (.discardTimerExpires k) s = .next (s.onDevice fun d =>
      ((d.setSlot k {}).queueEvent (.completionDiscarded c.line c.verb c.tag res)).settle)) ∧
  (∀ (s : State) (k : SlotId), s.dev.bridge.slots[k].discardTimer = none →
    exec (.discardTimerExpires k) s = .next (s.onDevice Device.settle)) ∧
  (∀ (s : State) (i : LineId) (ms : Nat) (p : EntryId × ActionNo), s.dev.trig.releaseTimers[i] = some ms →
    s.dev.lines[i].triggerInFlight = some p → ∃ d : Device,
    exec (.releaseTimerExpires i) s = .next (s.onDevice fun _ => d.settle) ∧
    d.lines[i].triggerInFlight = none ∧ d.trig.releaseTimers[i] = none ∧
    (s.dev.lines[i].state = .releasing →
      d.lines[i].state = .fault ∧ d.lines[i].cause = some .commandFailed ∧ d.lines[i].resync = s.dev.lines[i].resync ∧
      d.quay = (s.dev.queueEvent (.lineFault i .commandFailed)).quay) ∧
    (s.dev.lines[i].state ≠ .releasing →
      d.lines[i].state = s.dev.lines[i].state ∧ d.lines[i].cause = s.dev.lines[i].cause ∧ d.quay = s.dev.quay ∧
      d.lines[i].resync = (s.dev.lines[i].resync || decide (s.dev.lines[i].state ≠ .fault))) ∧
    (∀ j : LineId, j ≠ i → d.lines[j] = s.dev.lines[j])) ∧
  (∀ (s : State) (i : LineId), s.dev.trig.releaseTimers[i] = none →
    exec (.releaseTimerExpires i) s = .next (s.onDevice Device.settle))

/-- The debouncer of an input (R86): the timer of 20 ms starts when the level comes to differ from the debounced level,
runs on while it differs, and stops when it returns; at the expiry the debounced level is the input's, and the trigger
entries take the change (model's choice, when an expiry acts: log entries 2, 3). -/
def Obligations.InputDebouncing : Prop :=
  (∀ (s : State) (n : InputId) (l : Level), exec (.inputLevelChange n l) s = .next (s.onDevice fun d =>
    (d.setInput n
      { pin := l, debounced := d.trig.inputs[n].debounced
        stability := if l = d.trig.inputs[n].debounced then none
          else if d.trig.inputs[n].stability = none then some 20 else d.trig.inputs[n].stability }).settle)) ∧
  (∀ (s : State) (n : InputId) (ms : Nat), s.dev.trig.inputs[n].stability = some ms →
    exec (.stabilityTimerExpires n) s = .next (s.onDevice fun d =>
      ((d.setInput n
        { pin := d.trig.inputs[n].pin, debounced := d.trig.inputs[n].pin, stability := none }).takeConditions).settle)) ∧
  (∀ (s : State) (n : InputId), s.dev.trig.inputs[n].stability = none →
    exec (.stabilityTimerExpires n) s = .next (s.onDevice Device.settle))

/-- The condition of each source (R85, R86, R87). One entry takes its condition (R88, R89), the entries in ascending number
(R91): every change becomes its edge reference; a change to true fires an enabled IDLE entry; a change to false, and one
met while the entry is PENDING or disabled, fires nothing. What a firing does (R91): its event, the record with its targets in ascending line number (R92), each classed by its line's state and
station (R92), the effects on lines and slots in that order (R22, R93), and its delivery where nothing is left to send;
and what a delivery does (R98); of several complete records the oldest is delivered first (model's choice, log entry 22). -/
def Obligations.EntriesTakeTheirConditions : Prop :=
  (∀ (d : Device) (en : TriggerEntry),
    (∀ i : LineId, en.source = .lineCritical i →
      (d.conditionOf en = true ↔ d.lines[i].binding ≠ none ∧ d.lines[i].band = .critical)) ∧
    (∀ g : GroupId, en.source = .groupAlarm g → (d.conditionOf en = true ↔
      ∃ (i : LineId) (b : Binding), d.lines[i].binding = some b ∧ b.group = g ∧
        (d.lines[i].band = .alarm ∨ d.lines[i].band = .critical))) ∧
    (∀ n : InputId, en.source = .input n → (d.conditionOf en = true ↔ d.trig.inputs[n].debounced =
      match en.polarity with | .activeHigh => .high | .activeLow => .low)) ∧
    (en.source = .hostSilent → d.conditionOf en = d.quay.hostSilent) ∧
    (∀ st : StationId, en.source = .stationLost st → d.conditionOf en = d.trig.stationLost[st]) ∧
    (en.source = .software → d.conditionOf en = false)) ∧
  (∀ d : Device, d.takeConditions = ([0, 1, 2, 3, 4, 5, 6, 7, 8, 9, 10, 11] : List EntryId).foldl Device.takeCondition d ∧
    d.reformAlm = { d with trig := { d.trig with alm := d.almCondition } }) ∧
  (∀ (d : Device) (e : EntryId),
    let en := d.trig.entries[e]
    let now := d.conditionOf en
    (now = en.edgeRef → d.takeCondition e = d) ∧
    (now = true → en.edgeRef = false → en.enabled = true → en.status = .idle →
      d.takeCondition e = (d.setEntry e { en with edgeRef := true }).fire e) ∧
    (now ≠ en.edgeRef → now = false ∨ en.enabled = false ∨ en.status ≠ .idle →
      d.takeCondition e = d.setEntry e { en with edgeRef := now })) ∧
  -- a firing
  (∀ (d : Device) (e : EntryId), d.trig.entries[e].action = .report →
    let en := d.trig.entries[e]
    let rest := if en.mode = .level ∧ en.source ≠ .software then DeliveryStatus.awaitingAck else .idle
    d.fire e = ((d.queueEvent (.triggerFired e en.source .report 0)).setEntry e
      { en with succeeded := 0, failed := 0, status := rest }).reformAlm) ∧
  (∀ (d : Device) (e : EntryId), d.trig.entries[e].action ≠ .report →
    let en := d.trig.entries[e]
    let ts := (d.targetLines en).map (d.classify en.action)
    let r : ActionRecord := { entry := e, action := en.action, targets := ts }
    let d' := (d.queueEvent (.triggerFired e en.source en.action ts.length)).setEntry e { en with status := .pending }
    let d' := { d' with trig := { d'.trig with actions := d.trig.actions ++ [r] } }
    let d' := (d'.firingEffects en.action ts).reformAlm
    (en.action ≠ .stopAll → (∀ y ∈ ts, y.state = .succeeded ∨ y.state = .failed) → d.fire e = d'.deliver r) ∧
    (en.action = .stopAll ∨ (∃ y ∈ ts, y.state ≠ .succeeded ∧ y.state ≠ .failed) → d.fire e = d')) ∧
  (∀ (e : EntryId) (src : TriggerSource) (a : TriggerAction) (n ok bad : Nat),
    (Event.triggerFired e src a n).severity = .alarm ∧
    (Event.triggerDelivered e a ok bad).severity = if 0 < bad then .alarm else .info) ∧
  -- the target lines, and the class of each
  (∀ (d : Device) (en : TriggerEntry) (i : LineId),
    (d.targetLines en).Pairwise (· < ·) ∧
    (en.action = .stopAll → (i ∈ d.targetLines en ↔ d.lines[i].binding ≠ none)) ∧
    (en.action = .hold ∨ en.action = .slacken ∨ en.action = .release →
      (en.target = .sourceLine → (i ∈ d.targetLines en ↔ en.source = .lineCritical i)) ∧
      (∀ s : LineSet, en.target = .lineSet s → (i ∈ d.targetLines en ↔ inSet s i = true)) ∧
      (∀ g : GroupId, en.target = .group g →
        (i ∈ d.targetLines en ↔ ∃ b : Binding, d.lines[i].binding = some b ∧ b.group = g)))) ∧
  (∀ (d : Device) (i : LineId), d.eligible i = true ↔ ∃ b : Binding, d.lines[i].binding = some b ∧
    d.stations[b.station].presence = .present ∧ d.stations[b.station].enabled = true ∧
    d.stations[b.station].parked = false ∧ d.stations[b.station].power = .on) ∧
  (∀ (d : Device) (a : TriggerAction) (i : LineId), let x := d.lines[i].state
    d.classify .stopAll i = { line := i, state := .broadcast, attempts := 0, step := 0 } ∧
    (a = .hold ∨ a = .slacken ∨ a = .release →
      (d.classify a i).line = i ∧ (d.classify a i).attempts = 0 ∧
      (d.classify a i).step = (if a = .slacken then d.lines[i].config.tendStep else 0) ∧
      (d.eligible i = false → (d.classify a i).state = .failed) ∧
      (x = .stowed ∨ x = .ready ∨ x = .fault → (d.classify a i).state = .failed) ∧
      (d.eligible i = true →
        (x = .locked ∨ x = .tending → (d.classify a i).state = .waiting) ∧
        (x = .runningOut ∨ x = .locking ∨ x = .rewinding →
          (d.classify a i).state = if a = .slacken then .succeeded else .waiting) ∧
        (x = .releasing → (d.classify a i).state = if a = .release then .waiting else .succeeded) ∧
        (x = .released → (d.classify a i).state = .succeeded)))) ∧
  -- the effects on lines and slots
  (∀ (d : Device) (a : TriggerAction) (ts : List Target),
    (a ≠ .stopAll → d.firingEffects a ts = ts.foldl (Device.targetEffect a) d) ∧
    d.firingEffects .stopAll ts = (ts.foldl (Device.targetEffect .stopAll) d).endSlotsWhere
      (fun x => decide (x.state = .issued) || decide (x.state = .awaiting)) .preempted) ∧
  (∀ (d : Device) (y : Target), let i := y.line; let x := d.lines[i].state
    d.targetEffect .slacken y = d ∧ d.targetEffect .report y = d ∧
    (y.state ≠ .waiting → d.targetEffect .hold y = d ∧ d.targetEffect .release y = d) ∧
    (y.state = .waiting →
      (x = .locked → d.targetEffect .hold y = d) ∧
      (x = .tending → d.targetEffect .hold y = (d.setLine i { d.lines[i] with state := .locked }).removeTend i) ∧
      (x = .runningOut ∨ x = .locking ∨ x = .rewinding →
        d.targetEffect .hold y = (d.setLine i { d.lines[i] with resync := true }).endLiveSlot i .preempted) ∧
      (let d' := if x = .tending then (d.setLine i { d.lines[i] with state := .releasing }).removeTend i
         else d.setLine i { d.lines[i] with state := .releasing }
       (d.liveSlot i = none → d.targetEffect .release y = d') ∧
       ∀ (k : SlotId) (c : SlotCommand), d.liveSlot i = some k → d.bridge.slots[k].command = some c →
         d.targetEffect .release y = if c.verb = .release then d' else d'.endSlot k .preempted)) ∧
    (x = .tending → d.targetEffect .stopAll y = (d.setLine i { d.lines[i] with state := .locked }).removeTend i) ∧
    (x = .runningOut ∨ x = .locking ∨ x = .releasing ∨ x = .rewinding →
      d.targetEffect .stopAll y = d.setLine i { d.lines[i] with resync := true }) ∧
    (x = .unassigned ∨ x = .stowed ∨ x = .ready ∨ x = .locked ∨ x = .released ∨ x = .fault →
      d.targetEffect .stopAll y = d)) ∧
  (∀ (d : Device) (p : Slot → Bool) (res : SlotResult) (k : SlotId), let t := d.endSlotsWhere p res
    (p d.bridge.slots[k] = true → d.bridge.slots[k].live = true → d.bridge.slots[k].command ≠ none →
      t.bridge.slots[k].state = .complete ∧ t.bridge.slots[k].result = some res) ∧
    (p d.bridge.slots[k] = false → t.bridge.slots[k] = d.bridge.slots[k])) ∧
  -- a delivery
  (∀ (d : Device) (r : ActionRecord),
    let en := d.trig.entries[r.entry]
    let ok := r.targets.countP fun (y : Target) => decide (y.state = .succeeded)
    let bad := r.targets.countP fun (y : Target) => decide (y.state = .failed)
    let rest := if en.mode = .level ∧ en.source ≠ .software then DeliveryStatus.awaitingAck else .idle
    let d' := { d with trig := { d.trig with
      actions := d.trig.actions.filter fun (x : ActionRecord) => decide (x.entry ≠ r.entry) } }
    d.deliver r = ((d'.queueEvent (.triggerDelivered r.entry r.action ok bad)).setEntry r.entry
      { en with succeeded := ok, failed := bad, status := rest }).reformAlm) ∧
  (∀ d : Device, d.deliverComplete = (d.trig.actions.filter fun (r : ActionRecord) =>
    decide (r.action ≠ .stopAll ∧ ∀ y ∈ r.targets, y.state = .succeeded ∨ y.state = .failed)).foldl
      Device.deliver d)

/-! ### Tension, bands, reports -/

/-- A sample of a line: the rail test and the sensor mark (R29 to R31); conversion, filter and critical run (R32, R34,
R38), as functions and as the record holds them after an evaluated sample; the entry into CRITICAL (R39), the skipped
stage (R40), persistence and the change of band (R42), and the hand-over (R44). -/
def Obligations.TensionOfASample : Prop :=
  (∀ (c : LineConfig) (raw : Nat), raw ≤ c.zero → c.tension raw = 0) ∧
  (∀ (c : LineConfig) (raw : Nat), c.zero < raw → c.tension raw = (raw - c.zero) * c.span / 256) ∧
  (∀ (c : LineConfig) (raw : Nat), raw ≤ 4095 → c.span ≤ 4095 → c.tension raw ≤ 65504) ∧
  (∀ c : LineConfig, c.zero = 0 → c.span = 4095 → c.tension 4095 = 65504) ∧
  (∀ k t f : Nat, (filterStep k t f : Int) = (f : Int) + ((t : Int) - f).tdiv (2 ^ k)) ∧
  (∀ k t f : Nat, min f t ≤ filterStep k t f ∧ filterStep k t f ≤ max f t) ∧
  (∀ t f : Nat, filterStep 0 t f = t) ∧
  (∀ k t f : Nat, f < t + 2 ^ k → t < f + 2 ^ k → filterStep k t f = f) ∧
  (∀ (r : LineRecord) (t : Nat), r.config.critical ≤ t →
    r.nextRun t = min r.config.criticalCount (r.criticalRun + 1)) ∧
  (∀ (r : LineRecord) (t : Nat), t < r.config.critical → r.nextRun t = 0) ∧
  (∀ (d : Device) (i : LineId) (rep : Report),
    let r := d.lines[i]
    let r' := (d.evaluate i rep).lines[i]
    r'.tension = r.config.tension rep.raw ∧ r'.seeded = true ∧
    r'.filtered = (if r.seeded then filterStep r.config.shift (r.config.tension rep.raw) r.filtered
      else r.config.tension rep.raw) ∧
    r'.criticalRun = r.nextRun (r.config.tension rep.raw)) ∧
  -- the rail test
  (∀ (d : Device) (i : LineId) (rep : Report),
    let r : LineRecord := { d.lines[i] with lastRaw := some rep.raw }
    let d' := d.setLine i r
    let marked (m : SensorMark) := d.setLine i { r with sensor := m }
    let matching :=
      (r.config.cable = .high ∧ rep.kind = .checkHigh) ∨ (r.config.cable = .low ∧ rep.kind = .checkLow)
    let rail := (r.config.cable = .high ∧ 4088 ≤ rep.raw) ∨ (r.config.cable = .low ∧ rep.raw ≤ 7)
    (matching → rail →
      (r.sensor = .ok → d.takeSample i rep = marked .suspect) ∧
      (r.sensor = .suspect → d.takeSample i rep =
        let d' := (marked .open_).queueEvent (.sensorOpen i r.config.cable rep.raw)
        if r.state = .tending then d'.setState i .locked else d') ∧
      (r.sensor = .open_ → d.takeSample i rep = d')) ∧
    (matching → ¬rail →
      (r.sensor = .ok → d.takeSample i rep = d'.evaluate i rep) ∧
      (r.sensor = .suspect → d.takeSample i rep = (marked .ok).evaluate i rep) ∧
      (r.sensor = .open_ → d.takeSample i rep =
        ((d'.queueEvent (.sensorRestored i rep.raw)).setLine i
          { r with sensor := .ok, seeded := false }).evaluate i rep)) ∧
    (¬matching →
      (r.sensor = .ok ∨ r.sensor = .suspect → d.takeSample i rep = d'.evaluate i rep) ∧
      (r.sensor = .open_ → d.takeSample i rep = d'))) ∧
  -- stages 1 to 6, and the bands
  (∀ (d : Device) (i : LineId) (rep : Report),
    let r := d.lines[i]
    let t := r.config.tension rep.raw
    let d' := d.setLine i { r with
      tension := t, filtered := r.nextFiltered t, seeded := true, criticalRun := r.nextRun t }
    let d'' := d'.bandStages i
    d.evaluate i rep = d''.handOver i rep (decide (r.band ≠ d''.lines[i].band))) ∧
  (∀ (d : Device) (i : LineId), let r := d.lines[i]
    let plain := d.setLine i { r with candidate := none, persistCount := 0 }
    let entered (b : Band) := (d.setLine i { r with band := b, candidate := none, persistCount := 0 }).queueEvent
      (.bandChange i r.band b r.filtered r.tension)
    (r.criticalRun = r.config.criticalCount → r.band ≠ .critical → d.bandStages i =
      (let d' := (entered .critical).queueEvent (.critical i r.tension r.config.critical)
       (if r.state = .tending then d'.setState i .locked else d').takeConditions)) ∧
    (r.criticalRun = r.config.criticalCount → r.band = .critical → d.bandStages i = plain) ∧
    (r.band = .critical → r.config.critical ≤ r.tension → d.bandStages i = plain) ∧
    (r.criticalRun ≠ r.config.criticalCount → r.band ≠ .critical ∨ r.tension < r.config.critical →
      let c := r.candidateFor r.filtered
      let n := if r.candidate = some c then r.persistCount + 1 else 1
      (c = r.band → d.bandStages i = plain) ∧
      (c ≠ r.band → n < r.config.persistence →
        d.bandStages i = d.setLine i { r with candidate := some c, persistCount := n }) ∧
      (c ≠ r.band → r.config.persistence ≤ n → d.bandStages i = (entered c).takeConditions))) ∧
  (∀ (d : Device) (i : LineId) (rep : Report) (changed : Bool),
    let d' := if changed then d.setLine i { d.lines[i] with lengthLimit := false } else d
    let r := d.lines[i]
    (r.state = .tending → r.owner = .quay → d.eligible i = true →
      d.handOver i rep changed = (d'.tendDecision i).offerSample i rep changed) ∧
    (r.state ≠ .tending ∨ r.owner ≠ .quay ∨ d.eligible i = false →
      d.handOver i rep changed = d'.offerSample i rep changed))

/-- The order of the bands, the raw band of a value and the candidate of a sample (R35, R36, R41). -/
def Obligations.CandidateBands : Prop :=
  Band.slack.rank < Band.low.rank ∧ Band.low.rank < Band.working.rank ∧ Band.working.rank < Band.high.rank ∧
  Band.high.rank < Band.alarm.rank ∧ Band.alarm.rank < Band.critical.rank ∧
  (∀ (c : LineConfig) (x : Nat), c.slack < c.low → c.low < c.high → c.high < c.alarm →
    (c.rawBand x = .slack ↔ x < c.slack) ∧ (c.rawBand x = .low ↔ c.slack ≤ x ∧ x < c.low) ∧
    (c.rawBand x = .working ↔ c.low ≤ x ∧ x ≤ c.high) ∧ (c.rawBand x = .high ↔ c.high < x ∧ x < c.alarm) ∧
    (c.rawBand x = .alarm ↔ c.alarm ≤ x)) ∧
  (∀ (c : LineConfig) (x : Nat), c.rawBand x ≠ .critical) ∧
  (∀ (r : LineRecord) (f : Nat),
    (r.band.rank < (r.config.rawBand f).rank → r.candidateFor f = r.config.rawBand f) ∧
    ((r.config.rawBand f).rank < r.band.rank →
      r.candidateFor f =
        if (r.config.rawBand (min 65535 (f + r.config.hyst))).rank < r.band.rank
        then r.config.rawBand (min 65535 (f + r.config.hyst)) else r.band) ∧
    (r.config.rawBand f = r.band → r.candidateFor f = r.band) ∧
    (r.band = .critical → r.candidateFor f = r.config.rawBand (min 65535 (f + r.config.hyst)) ∧
      (r.candidateFor f).rank < Band.critical.rank))

/-- A STATUS at the Line Table (R11): the line it is applied to, and the order of its steps, the action matches of R73 and
R23 and the latch-jam check of R19 among them (their order and the state that the second case of R19 sees: model's choice,
log entry 15); and reconcile (R18): the state a report gives to a line whose resync is pending or whose owner is LOCAL. -/
def Obligations.ReconcileFromAReport : Prop :=
  (∀ (d : Device) (i : LineId) (rep : Report),
    let r := d.lines[i]
    let r' := (d.reconcile i rep).lines[i]
    let due := r.resync = true ∨ r.owner = .localOwner
    (¬due → d.reconcile i rep = d) ∧
    (due → rep.latch = .moving → d.reconcile i rep = d) ∧
    (due → rep.latch = .closed → r' = { r with state := .locked, cause := none, resync := false }) ∧
    (due → rep.latch = .open_ → rep.length ≤ r.config.stow + 50 →
      r' = { r with state := .stowed, cause := none, resync := false }) ∧
    (due → rep.latch = .open_ → r.config.stow + 50 < rep.length →
      r' = { r with state := .released, cause := none, resync := false }) ∧
    (due → rep.latch = .jammed →
      r' = { r with state := .fault, cause := some .latchJammed, resync := false } ∧
      (d.reconcile i rep).quay =
        if r.state = .fault ∧ r.cause = some .latchJammed then d.quay
        else (d.queueEvent (.lineFault i .latchJammed)).quay) ∧
    (∀ j : LineId, j ≠ i → (d.reconcile i rep).lines[j] = d.lines[j]) ∧
    (d.reconcile i rep).bridge = d.bridge ∧ (d.reconcile i rep).stations = d.stations) ∧
  (∀ (d : Device) (st : StationId) (rep : Report),
    (d.lineAt st rep.drum = none → d.stationReport st rep = d) ∧
    ∀ i : LineId, d.lineAt st rep.drum = some i → d.stationReport st rep =
      (let d₂ := (d.setLine i { d.lines[i] with
        length := some rep.length, latch := some rep.latch, brake := some rep.brake, motion := some rep.motion
        lastAction := some (rep.action, rep.status) }).recheckTend i
       let jam := decide (rep.latch = .jammed)
       let releasing := decide (d.lines[i].state = .releasing)
       let d₃ := if jam && (releasing || decide (d.lines[i].state = .locking)) then d₂.endLiveSlot i .failed else d₂
       let d₄ := d₃.matchSlot i rep
       let d₅ := d₄.matchTrigger i rep
       let d₆ := if jam && releasing then d₅.endRelease i false else d₅
       (d₆.reconcile i rep).takeSample i rep)) ∧
  (∀ (d : Device) (st : StationId) (drum : Drum) (i : LineId), d.lineAt st drum = some i →
    ∃ b : Binding, d.lines[i].binding = some b ∧ b.station = st ∧ b.drum = drum) ∧
  (∀ (d : Device) (st : StationId) (drum : Drum), d.lineAt st drum = none →
    ∀ (i : LineId) (b : Binding), d.lines[i].binding = some b → ¬(b.station = st ∧ b.drum = drum)) ∧
  (∀ (d : Device) (i : LineId) (rep : Report),
    let hit (k : SlotId) := d.liveSlot i = some k ∧ d.bridge.slots[k].state = .awaiting ∧
      d.bridge.slots[k].action = some rep.action
    (∀ k : SlotId, hit k → rep.status = .done → d.matchSlot i rep = d.endSlot k .done) ∧
    (∀ k : SlotId, hit k → rep.status = .failed → d.matchSlot i rep = d.endSlot k .failed) ∧
    ((∀ k : SlotId, ¬hit k) ∨ rep.status = .busy ∨ rep.status = .idle → d.matchSlot i rep = d)) ∧
  (∀ (d : Device) (i : LineId) (rep : Report),
    let hit := ∃ e : EntryId, d.lines[i].triggerInFlight = some (e, rep.action)
    (hit → rep.status = .done → d.matchTrigger i rep = d.endRelease i true) ∧
    (hit → rep.status = .failed → d.matchTrigger i rep = d.endRelease i false) ∧
    (¬hit ∨ rep.status = .busy ∨ rep.status = .idle → d.matchTrigger i rep = d)) ∧
  (∀ (d : Device) (i : LineId) (success : Bool), let t := d.endRelease i success
    (d.lines[i].triggerInFlight = none → t = d) ∧
    (∀ p : EntryId × ActionNo, d.lines[i].triggerInFlight = some p →
      t.trig.releaseTimers[i] = none ∧ (∀ j : LineId, j ≠ i → t.lines[j] = d.lines[j]) ∧
      (d.lines[i].state = .releasing → success = true →
        t.lines[i] = { d.lines[i] with state := .released, triggerInFlight := none } ∧ t.quay = d.quay) ∧
      (d.lines[i].state = .releasing → success = false →
        t.lines[i] = { d.lines[i] with state := .fault, cause := some .commandFailed, triggerInFlight := none } ∧
        t.quay = (d.queueEvent (.lineFault i .commandFailed)).quay) ∧
      (d.lines[i].state ≠ .releasing →
        t.lines[i] = { d.lines[i] with
          triggerInFlight := none, resync := d.lines[i].resync || decide (d.lines[i].state ≠ .fault) } ∧
        t.quay = d.quay)))

/-- Telemetry decimation (R172). -/
def Obligations.TelemetryDecimation : Prop :=
  ∀ (d : Device) (i : LineId) (rep : Report),
    let r := d.lines[i]
    let x : Sample :=
      { line := i, kind := rep.kind, raw := rep.raw, tension := r.tension, filtered := r.filtered, band := r.band,
        length := rep.length, latch := rep.latch, motion := rep.motion }
    (d.offerSample i rep true = (d.setLine i { r with telemetryCount := 0 }).placeSample x) ∧
    (r.config.divisor = 0 → d.offerSample i rep false = d.setLine i { r with telemetryCount := 0 }) ∧
    (0 < r.config.divisor → r.config.divisor ≤ r.telemetryCount + 1 →
      d.offerSample i rep false = (d.setLine i { r with telemetryCount := 0 }).placeSample x) ∧
    (r.telemetryCount + 1 < r.config.divisor →
      d.offerSample i rep false = d.setLine i { r with telemetryCount := r.telemetryCount + 1 }) ∧
    (d.quay.transmitter.isSome →
      d.placeSample x = { d with quay := { d.quay with
        telemetry := put d.quay.telemetry i { sample := some x, fresh := true } } })

/-- A drop-out (R140): what it leaves of the station and of its work, the events it queues and their order, and that of
every line it changes at most state, resync mark, fault cause and trigger action in flight. The severity of its
STATION_CHANGE is that of the flags newly set (model's choice, log entry 30). -/
def Obligations.DropOutOfAStation : Prop :=
  ∀ (d : Device) (st : StationId), let t := d.dropOut st
    t.stations[st] = { d.stations[st] with
      presence := .absent, enabled := false, missed := 0, resetting := false,
      flags := { d.stations[st].flags with
        presence := true, enable := true,
        reset := d.stations[st].flags.reset || d.stations[st].resetting } } ∧
    (∀ st' : StationId, st' ≠ st → t.stations[st'] = d.stations[st']) ∧
    WorkGone d t st ∧
    (∀ i : LineId, t.lines[i].unworked = d.lines[i].unworked) ∧
    (∀ i : LineId, d.lines[i].onStation st = true →
      t.lines[i].triggerInFlight = none ∧ t.trig.releaseTimers[i] = none) ∧
    (∃ es es' : List Event, (∀ e ∈ es, e.isDelivery = true) ∧ (∀ e ∈ es', e.ofEntries = true) ∧
      t.quay = (d.queueEvents (d.lostFaults st ++ d.lostPosted st .stationLost ++ es ++
        stationChanges st d.stations[st].flags t.stations[st] ++ es')).quay) ∧
    t.scan.probe[st] = none ∧ t.trig.stationLost[st] = true ∧ t.hold = d.hold

/-- Putting a line into FAULT (R10), which takes its tend entry when it leaves TENDING (R9); and the tend request list: the
removal (the others keep their order, and the exchange of a SENT entry is detached, R48, R57), the decision of a sample
(R49, R53), the limit check (R50), its refusal (R51) and the recheck (R54), whose LENGTH_LIMIT carries the entry's own step
(model's choice, log entry 28). -/
def Obligations.EntryIntoFaultAndTendEntryRemoval : Prop :=
  (∀ (d : Device) (i : LineId) (c : FaultCause), let t := d.putFault i c
      t.lines[i] = { d.lines[i] with state := .fault, cause := some c } ∧
      (∀ j : LineId, j ≠ i → t.lines[j] = d.lines[j]) ∧
      (d.lines[i].state = .fault → d.lines[i].cause = some c → t.quay = d.quay) ∧
      (¬(d.lines[i].state = .fault ∧ d.lines[i].cause = some c) →
        t.quay = (d.queueEvent (.lineFault i c)).quay) ∧
      (Event.lineFault i c).severity = .alarm ∧
      (d.lines[i].state = .tending → ∀ x ∈ t.tend, x.line ≠ i) ∧
      (d.lines[i].state ≠ .tending → t.tend = d.tend) ∧ t.stations = d.stations ∧ t.bridge = d.bridge) ∧
  (∀ (d : Device) (i : LineId),
      (d.removeTend i).tend = d.tend.filter (fun t => decide (t.line ≠ i)) ∧
      ((∀ t ∈ d.tend, t.line = i → t.sent = false) →
        d.removeTend i = { d with tend := d.tend.filter fun t => decide (t.line ≠ i) }) ∧
      (∀ x : Exchange, d.bus.exchange = some x → x.owner = .tend i → (∃ t ∈ d.tend, t.line = i ∧ t.sent = true) →
        (d.removeTend i).bus = { d.bus with exchange := some { x with detached := true } }) ∧
      (d.removeTend i).quay = d.quay ∧ (d.removeTend i).lines = d.lines ∧ (d.removeTend i).stations = d.stations) ∧
  -- the decision of a sample
  (∀ (d : Device) (i : LineId), let r := d.lines[i]
    let dropped : List TendEntry := d.tend.filter fun y => decide (¬(y.line = i ∧ y.sent = false))
    (r.band = .working ∨ r.band = .critical → d.tendDecision i = { d with tend := dropped }) ∧
    (∀ dir : TendDirection,
      (dir = .payout ∧ (r.band = .high ∨ r.band = .alarm)) ∨ (dir = .heave ∧ (r.band = .slack ∨ r.band = .low)) →
      (r.stepPasses dir r.config.tendStep = false →
        d.tendDecision i = { d.refuseStep i dir r.config.tendStep with tend := dropped }) ∧
      (r.stepPasses dir r.config.tendStep = true → (∀ y ∈ d.tend, y.line ≠ i) →
        d.tendDecision i = { d with tend := d.tend ++
          [{ line := i, direction := dir, step := r.config.tendStep, sent := false, attempts := 0 }] }) ∧
      (r.stepPasses dir r.config.tendStep = true → (∃ y ∈ d.tend, y.line = i) →
        d.tendDecision i = { d with tend := d.tend.map fun y =>
          if y.line = i ∧ y.sent = false then
            { y with direction := dir, step := r.config.tendStep
                     attempts := if y.direction = dir then y.attempts else 0 }
          else y }))) ∧
  (∀ (r : LineRecord) (n step : Nat), r.length = some n →
    (r.stepPasses .payout step = true ↔ n + step ≤ r.config.maxLength) ∧
    (r.stepPasses .heave step = true ↔ r.config.minLength + step ≤ n)) ∧
  (∀ (d : Device) (i : LineId) (dir : TendDirection) (step n : Nat), let r := d.lines[i]
    (r.lengthLimit = true → d.refuseStep i dir step = d) ∧
    (r.lengthLimit = false → r.length = some n → d.refuseStep i dir step =
      (d.queueEvent (.lengthLimit i dir n (if dir = .payout then r.config.maxLength else r.config.minLength)
        step)).setLine i { r with lengthLimit := true })) ∧
  -- the recheck of an UNSENT entry
  (∀ (d : Device) (i : LineId),
    ((∀ y ∈ d.tend, y.line = i → y.sent = true) → d.recheckTend i = d) ∧
    (∀ y : TendEntry, d.tend.find? (fun y => decide (y.line = i ∧ y.sent = false)) = some y →
      (d.lines[i].stepPasses y.direction y.step = true → d.recheckTend i = d) ∧
      (d.lines[i].stepPasses y.direction y.step = false → d.recheckTend i =
        { d with tend := d.tend.filter fun y => decide (¬(y.line = i ∧ y.sent = false)) }.refuseStep i y.direction
          y.step)))
end

