-- ==== Sys2Proof/Laws/State.lean ====
section
/-! SUPPORT. Reading a table after a write, and one lemma for each field of the part after each write of the part: no
later proof unfolds a record update. -/

namespace Sys2Proof.Machine

/-! ### Tables -/

theorem put_get_self {α : Type} {n : Nat} (v : Vector α n) (i : Fin n) (x : α) : (put v i x)[i] = x := by
  simp [put]

theorem put_get_ne {α : Type} {n : Nat} (v : Vector α n) {i j : Fin n} (x : α) (h : j ≠ i) : (put v i x)[j] = v[j] := by
  have h' : i.val ≠ j.val := fun e => h (Fin.ext e.symm)
  simp [put, h']

theorem put_get {α : Type} {n : Nat} (v : Vector α n) (i j : Fin n) (x : α) :
    (put v i x)[j] = if j = i then x else v[j] := by
  by_cases h : j = i
  · subst h
    rw [put_get_self, if_pos rfl]
  · rw [put_get_ne v x h, if_neg h]

/-- The same read with the index as a number, the form in which simp leaves it. -/
@[simp] theorem put_val_self {α : Type} {n : Nat} (v : Vector α n) (i : Fin n) (x : α) : (put v i x)[i.val] = x := by
  simp [put]

theorem put_val_ne {α : Type} {n : Nat} (v : Vector α n) {i j : Fin n} (x : α) (h : j ≠ i) :
    (put v i x)[j.val] = v[j.val] := put_get_ne v x h

@[simp] theorem put_put {α : Type} {n : Nat} (v : Vector α n) (i : Fin n) (x y : α) :
    put (put v i x) i y = put v i y := by
  simp [put]

@[simp] theorem put_self {α : Type} {n : Nat} (v : Vector α n) (i : Fin n) : put v i v[i] = v := by
  simp [put]

/-! ### Writes of one record, and their fields -/

@[simp] theorem setLine_setLine (d : Device) (i : LineId) (r r' : LineRecord) :
    (d.setLine i r).setLine i r' = d.setLine i r' := by
  simp [Device.setLine]

theorem updLine_eq (d : Device) (i : LineId) (f : LineRecord → LineRecord) : d.updLine i f = d.setLine i (f d.lines[i]) :=
  rfl

theorem updStation_eq (d : Device) (st : StationId) (f : StationRecord → StationRecord) :
    d.updStation st f = d.setStation st (f d.stations[st]) := rfl

@[simp] theorem setLine_quay (d : Device) (i : LineId) (r : LineRecord) :
    (d.setLine i r).quay = d.quay := rfl
@[simp] theorem setLine_tend (d : Device) (i : LineId) (r : LineRecord) :
    (d.setLine i r).tend = d.tend := rfl
@[simp] theorem setLine_bridge (d : Device) (i : LineId) (r : LineRecord) :
    (d.setLine i r).bridge = d.bridge := rfl
@[simp] theorem setLine_trig (d : Device) (i : LineId) (r : LineRecord) :
    (d.setLine i r).trig = d.trig := rfl
@[simp] theorem setLine_scan (d : Device) (i : LineId) (r : LineRecord) :
    (d.setLine i r).scan = d.scan := rfl
@[simp] theorem setLine_bus (d : Device) (i : LineId) (r : LineRecord) :
    (d.setLine i r).bus = d.bus := rfl
@[simp] theorem setLine_stations (d : Device) (i : LineId) (r : LineRecord) :
    (d.setLine i r).stations = d.stations := rfl
@[simp] theorem setLine_hold (d : Device) (i : LineId) (r : LineRecord) :
    (d.setLine i r).hold = d.hold := rfl
@[simp] theorem setLine_freeCount (d : Device) (i : LineId) (r : LineRecord) :
    (d.setLine i r).freeCount = d.freeCount := rfl
@[simp] theorem setLine_lines (d : Device) (i : LineId) (r : LineRecord) :
    (d.setLine i r).lines = put d.lines i r := rfl

@[simp] theorem updLine_quay (d : Device) (i : LineId) (f : LineRecord → LineRecord) :
    (d.updLine i f).quay = d.quay := rfl
@[simp] theorem updLine_tend (d : Device) (i : LineId) (f : LineRecord → LineRecord) :
    (d.updLine i f).tend = d.tend := rfl
@[simp] theorem updLine_bridge (d : Device) (i : LineId) (f : LineRecord → LineRecord) :
    (d.updLine i f).bridge = d.bridge := rfl
@[simp] theorem updLine_trig (d : Device) (i : LineId) (f : LineRecord → LineRecord) :
    (d.updLine i f).trig = d.trig := rfl
@[simp] theorem updLine_scan (d : Device) (i : LineId) (f : LineRecord → LineRecord) :
    (d.updLine i f).scan = d.scan := rfl
@[simp] theorem updLine_bus (d : Device) (i : LineId) (f : LineRecord → LineRecord) :
    (d.updLine i f).bus = d.bus := rfl
@[simp] theorem updLine_stations (d : Device) (i : LineId) (f : LineRecord → LineRecord) :
    (d.updLine i f).stations = d.stations := rfl
@[simp] theorem updLine_hold (d : Device) (i : LineId) (f : LineRecord → LineRecord) :
    (d.updLine i f).hold = d.hold := rfl
@[simp] theorem updLine_freeCount (d : Device) (i : LineId) (f : LineRecord → LineRecord) :
    (d.updLine i f).freeCount = d.freeCount := rfl
@[simp] theorem updLine_lines (d : Device) (i : LineId) (f : LineRecord → LineRecord) :
    (d.updLine i f).lines = put d.lines i (f d.lines[i]) := rfl

@[simp] theorem setStation_quay (d : Device) (st : StationId) (r : StationRecord) :
    (d.setStation st r).quay = d.quay := rfl
@[simp] theorem setStation_lines (d : Device) (st : StationId) (r : StationRecord) :
    (d.setStation st r).lines = d.lines := rfl
@[simp] theorem setStation_tend (d : Device) (st : StationId) (r : StationRecord) :
    (d.setStation st r).tend = d.tend := rfl
@[simp] theorem setStation_bridge (d : Device) (st : StationId) (r : StationRecord) :
    (d.setStation st r).bridge = d.bridge := rfl
@[simp] theorem setStation_trig (d : Device) (st : StationId) (r : StationRecord) :
    (d.setStation st r).trig = d.trig := rfl
@[simp] theorem setStation_scan (d : Device) (st : StationId) (r : StationRecord) :
    (d.setStation st r).scan = d.scan := rfl
@[simp] theorem setStation_bus (d : Device) (st : StationId) (r : StationRecord) :
    (d.setStation st r).bus = d.bus := rfl
@[simp] theorem setStation_hold (d : Device) (st : StationId) (r : StationRecord) :
    (d.setStation st r).hold = d.hold := rfl
@[simp] theorem setStation_freeCount (d : Device) (st : StationId) (r : StationRecord) :
    (d.setStation st r).freeCount = d.freeCount := rfl
@[simp] theorem setStation_stations (d : Device) (st : StationId) (r : StationRecord) :
    (d.setStation st r).stations = put d.stations st r := rfl

@[simp] theorem updStation_quay (d : Device) (st : StationId) (f : StationRecord → StationRecord) :
    (d.updStation st f).quay = d.quay := rfl
@[simp] theorem updStation_lines (d : Device) (st : StationId) (f : StationRecord → StationRecord) :
    (d.updStation st f).lines = d.lines := rfl
@[simp] theorem updStation_tend (d : Device) (st : StationId) (f : StationRecord → StationRecord) :
    (d.updStation st f).tend = d.tend := rfl
@[simp] theorem updStation_bridge (d : Device) (st : StationId) (f : StationRecord → StationRecord) :
    (d.updStation st f).bridge = d.bridge := rfl
@[simp] theorem updStation_trig (d : Device) (st : StationId) (f : StationRecord → StationRecord) :
    (d.updStation st f).trig = d.trig := rfl
@[simp] theorem updStation_scan (d : Device) (st : StationId) (f : StationRecord → StationRecord) :
    (d.updStation st f).scan = d.scan := rfl
@[simp] theorem updStation_bus (d : Device) (st : StationId) (f : StationRecord → StationRecord) :
    (d.updStation st f).bus = d.bus := rfl
@[simp] theorem updStation_hold (d : Device) (st : StationId) (f : StationRecord → StationRecord) :
    (d.updStation st f).hold = d.hold := rfl
@[simp] theorem updStation_freeCount (d : Device) (st : StationId) (f : StationRecord → StationRecord) :
    (d.updStation st f).freeCount = d.freeCount := rfl
@[simp] theorem updStation_stations (d : Device) (st : StationId) (f : StationRecord → StationRecord) :
    (d.updStation st f).stations = put d.stations st (f d.stations[st]) := rfl

@[simp] theorem setSlot_quay (d : Device) (k : SlotId) (x : Slot) :
    (d.setSlot k x).quay = d.quay := rfl
@[simp] theorem setSlot_lines (d : Device) (k : SlotId) (x : Slot) :
    (d.setSlot k x).lines = d.lines := rfl
@[simp] theorem setSlot_tend (d : Device) (k : SlotId) (x : Slot) :
    (d.setSlot k x).tend = d.tend := rfl
@[simp] theorem setSlot_trig (d : Device) (k : SlotId) (x : Slot) :
    (d.setSlot k x).trig = d.trig := rfl
@[simp] theorem setSlot_scan (d : Device) (k : SlotId) (x : Slot) :
    (d.setSlot k x).scan = d.scan := rfl
@[simp] theorem setSlot_bus (d : Device) (k : SlotId) (x : Slot) :
    (d.setSlot k x).bus = d.bus := rfl
@[simp] theorem setSlot_stations (d : Device) (k : SlotId) (x : Slot) :
    (d.setSlot k x).stations = d.stations := rfl
@[simp] theorem setSlot_hold (d : Device) (k : SlotId) (x : Slot) :
    (d.setSlot k x).hold = d.hold := rfl
@[simp] theorem setSlot_freeCount (d : Device) (k : SlotId) (x : Slot) :
    (d.setSlot k x).freeCount = d.freeCount := rfl
@[simp] theorem setSlot_bridge_slots (d : Device) (k : SlotId) (x : Slot) :
    (d.setSlot k x).bridge.slots = put d.bridge.slots k x := rfl
@[simp] theorem setSlot_bridge_posted (d : Device) (k : SlotId) (x : Slot) :
    (d.setSlot k x).bridge.posted = d.bridge.posted := rfl
@[simp] theorem setSlot_bridge_nextOrder (d : Device) (k : SlotId) (x : Slot) :
    (d.setSlot k x).bridge.nextOrder = d.bridge.nextOrder := rfl
@[simp] theorem setSlot_bridge_retries (d : Device) (k : SlotId) (x : Slot) :
    (d.setSlot k x).bridge.retries = d.bridge.retries := rfl

@[simp] theorem setEntry_quay (d : Device) (e : EntryId) (x : TriggerEntry) :
    (d.setEntry e x).quay = d.quay := rfl
@[simp] theorem setEntry_lines (d : Device) (e : EntryId) (x : TriggerEntry) :
    (d.setEntry e x).lines = d.lines := rfl
@[simp] theorem setEntry_tend (d : Device) (e : EntryId) (x : TriggerEntry) :
    (d.setEntry e x).tend = d.tend := rfl
@[simp] theorem setEntry_bridge (d : Device) (e : EntryId) (x : TriggerEntry) :
    (d.setEntry e x).bridge = d.bridge := rfl
@[simp] theorem setEntry_scan (d : Device) (e : EntryId) (x : TriggerEntry) :
    (d.setEntry e x).scan = d.scan := rfl
@[simp] theorem setEntry_bus (d : Device) (e : EntryId) (x : TriggerEntry) :
    (d.setEntry e x).bus = d.bus := rfl
@[simp] theorem setEntry_stations (d : Device) (e : EntryId) (x : TriggerEntry) :
    (d.setEntry e x).stations = d.stations := rfl
@[simp] theorem setEntry_hold (d : Device) (e : EntryId) (x : TriggerEntry) :
    (d.setEntry e x).hold = d.hold := rfl
@[simp] theorem setEntry_freeCount (d : Device) (e : EntryId) (x : TriggerEntry) :
    (d.setEntry e x).freeCount = d.freeCount := rfl
@[simp] theorem setEntry_trig_entries (d : Device) (e : EntryId) (x : TriggerEntry) :
    (d.setEntry e x).trig.entries = put d.trig.entries e x := rfl
@[simp] theorem setEntry_trig_actions (d : Device) (e : EntryId) (x : TriggerEntry) :
    (d.setEntry e x).trig.actions = d.trig.actions := rfl
@[simp] theorem setEntry_trig_releaseTimers (d : Device) (e : EntryId) (x : TriggerEntry) :
    (d.setEntry e x).trig.releaseTimers = d.trig.releaseTimers := rfl
@[simp] theorem setEntry_trig_inputs (d : Device) (e : EntryId) (x : TriggerEntry) :
    (d.setEntry e x).trig.inputs = d.trig.inputs := rfl
@[simp] theorem setEntry_trig_stationLost (d : Device) (e : EntryId) (x : TriggerEntry) :
    (d.setEntry e x).trig.stationLost = d.trig.stationLost := rfl
@[simp] theorem setEntry_trig_alm (d : Device) (e : EntryId) (x : TriggerEntry) :
    (d.setEntry e x).trig.alm = d.trig.alm := rfl

@[simp] theorem setInput_quay (d : Device) (n : InputId) (x : TriggerInput) :
    (d.setInput n x).quay = d.quay := rfl
@[simp] theorem setInput_lines (d : Device) (n : InputId) (x : TriggerInput) :
    (d.setInput n x).lines = d.lines := rfl
@[simp] theorem setInput_tend (d : Device) (n : InputId) (x : TriggerInput) :
    (d.setInput n x).tend = d.tend := rfl
@[simp] theorem setInput_bridge (d : Device) (n : InputId) (x : TriggerInput) :
    (d.setInput n x).bridge = d.bridge := rfl
@[simp] theorem setInput_scan (d : Device) (n : InputId) (x : TriggerInput) :
    (d.setInput n x).scan = d.scan := rfl
@[simp] theorem setInput_bus (d : Device) (n : InputId) (x : TriggerInput) :
    (d.setInput n x).bus = d.bus := rfl
@[simp] theorem setInput_stations (d : Device) (n : InputId) (x : TriggerInput) :
    (d.setInput n x).stations = d.stations := rfl
@[simp] theorem setInput_hold (d : Device) (n : InputId) (x : TriggerInput) :
    (d.setInput n x).hold = d.hold := rfl
@[simp] theorem setInput_freeCount (d : Device) (n : InputId) (x : TriggerInput) :
    (d.setInput n x).freeCount = d.freeCount := rfl
@[simp] theorem setInput_trig_inputs (d : Device) (n : InputId) (x : TriggerInput) :
    (d.setInput n x).trig.inputs = put d.trig.inputs n x := rfl
@[simp] theorem setInput_trig_entries (d : Device) (n : InputId) (x : TriggerInput) :
    (d.setInput n x).trig.entries = d.trig.entries := rfl
@[simp] theorem setInput_trig_actions (d : Device) (n : InputId) (x : TriggerInput) :
    (d.setInput n x).trig.actions = d.trig.actions := rfl
@[simp] theorem setInput_trig_releaseTimers (d : Device) (n : InputId) (x : TriggerInput) :
    (d.setInput n x).trig.releaseTimers = d.trig.releaseTimers := rfl
@[simp] theorem setInput_trig_stationLost (d : Device) (n : InputId) (x : TriggerInput) :
    (d.setInput n x).trig.stationLost = d.trig.stationLost := rfl
@[simp] theorem setInput_trig_alm (d : Device) (n : InputId) (x : TriggerInput) :
    (d.setInput n x).trig.alm = d.trig.alm := rfl

@[simp] theorem setProbe_quay (d : Device) (st : StationId) (t : Timer) :
    (d.setProbe st t).quay = d.quay := rfl
@[simp] theorem setProbe_lines (d : Device) (st : StationId) (t : Timer) :
    (d.setProbe st t).lines = d.lines := rfl
@[simp] theorem setProbe_tend (d : Device) (st : StationId) (t : Timer) :
    (d.setProbe st t).tend = d.tend := rfl
@[simp] theorem setProbe_bridge (d : Device) (st : StationId) (t : Timer) :
    (d.setProbe st t).bridge = d.bridge := rfl
@[simp] theorem setProbe_trig (d : Device) (st : StationId) (t : Timer) :
    (d.setProbe st t).trig = d.trig := rfl
@[simp] theorem setProbe_bus (d : Device) (st : StationId) (t : Timer) :
    (d.setProbe st t).bus = d.bus := rfl
@[simp] theorem setProbe_stations (d : Device) (st : StationId) (t : Timer) :
    (d.setProbe st t).stations = d.stations := rfl
@[simp] theorem setProbe_hold (d : Device) (st : StationId) (t : Timer) :
    (d.setProbe st t).hold = d.hold := rfl
@[simp] theorem setProbe_freeCount (d : Device) (st : StationId) (t : Timer) :
    (d.setProbe st t).freeCount = d.freeCount := rfl
@[simp] theorem setProbe_scan_probe (d : Device) (st : StationId) (t : Timer) :
    (d.setProbe st t).scan.probe = put d.scan.probe st t := rfl
@[simp] theorem setProbe_scan_config (d : Device) (st : StationId) (t : Timer) :
    (d.setProbe st t).scan.config = d.scan.config := rfl
@[simp] theorem setProbe_scan_pending (d : Device) (st : StationId) (t : Timer) :
    (d.setProbe st t).scan.pending = d.scan.pending := rfl
@[simp] theorem setProbe_scan_intervalTimer (d : Device) (st : StationId) (t : Timer) :
    (d.setProbe st t).scan.intervalTimer = d.scan.intervalTimer := rfl
@[simp] theorem setProbe_scan_sweep (d : Device) (st : StationId) (t : Timer) :
    (d.setProbe st t).scan.sweep = d.scan.sweep := rfl
@[simp] theorem setProbe_scan_sweepDue (d : Device) (st : StationId) (t : Timer) :
    (d.setProbe st t).scan.sweepDue = d.scan.sweepDue := rfl
@[simp] theorem setProbe_scan_pointer (d : Device) (st : StationId) (t : Timer) :
    (d.setProbe st t).scan.pointer = d.scan.pointer := rfl
@[simp] theorem setProbe_scan_pollList (d : Device) (st : StationId) (t : Timer) :
    (d.setProbe st t).scan.pollList = d.scan.pollList := rfl
@[simp] theorem setProbe_scan_followUp (d : Device) (st : StationId) (t : Timer) :
    (d.setProbe st t).scan.followUp = d.scan.followUp := rfl

@[simp] theorem setObserver_quay (d : Device) (o : Observer) :
    (d.setObserver o).quay = d.quay := rfl
@[simp] theorem setObserver_lines (d : Device) (o : Observer) :
    (d.setObserver o).lines = d.lines := rfl
@[simp] theorem setObserver_tend (d : Device) (o : Observer) :
    (d.setObserver o).tend = d.tend := rfl
@[simp] theorem setObserver_bridge (d : Device) (o : Observer) :
    (d.setObserver o).bridge = d.bridge := rfl
@[simp] theorem setObserver_trig (d : Device) (o : Observer) :
    (d.setObserver o).trig = d.trig := rfl
@[simp] theorem setObserver_scan (d : Device) (o : Observer) :
    (d.setObserver o).scan = d.scan := rfl
@[simp] theorem setObserver_stations (d : Device) (o : Observer) :
    (d.setObserver o).stations = d.stations := rfl
@[simp] theorem setObserver_hold (d : Device) (o : Observer) :
    (d.setObserver o).hold = d.hold := rfl
@[simp] theorem setObserver_freeCount (d : Device) (o : Observer) :
    (d.setObserver o).freeCount = d.freeCount := rfl
@[simp] theorem setObserver_bus_observer (d : Device) (o : Observer) :
    (d.setObserver o).bus.observer = o := rfl
@[simp] theorem setObserver_bus_engine (d : Device) (o : Observer) :
    (d.setObserver o).bus.engine = d.bus.engine := rfl
@[simp] theorem setObserver_bus_exchange (d : Device) (o : Observer) :
    (d.setObserver o).bus.exchange = d.bus.exchange := rfl
@[simp] theorem setObserver_bus_window (d : Device) (o : Observer) :
    (d.setObserver o).bus.window = d.bus.window := rfl
@[simp] theorem setObserver_bus_response (d : Device) (o : Observer) :
    (d.setObserver o).bus.response = d.bus.response := rfl
@[simp] theorem setObserver_bus_rotation (d : Device) (o : Observer) :
    (d.setObserver o).bus.rotation = d.bus.rotation := rfl
@[simp] theorem setObserver_bus_pollRun (d : Device) (o : Observer) :
    (d.setObserver o).bus.pollRun = d.bus.pollRun := rfl
@[simp] theorem setObserver_bus_nextAction (d : Device) (o : Observer) :
    (d.setObserver o).bus.nextAction = d.bus.nextAction := rfl
@[simp] theorem setObserver_bus_stationSource (d : Device) (o : Observer) :
    (d.setObserver o).bus.stationSource = d.bus.stationSource := rfl

@[simp] theorem engineIdle_quay (d : Device) :
    (d.engineIdle).quay = d.quay := rfl
@[simp] theorem engineIdle_lines (d : Device) :
    (d.engineIdle).lines = d.lines := rfl
@[simp] theorem engineIdle_tend (d : Device) :
    (d.engineIdle).tend = d.tend := rfl
@[simp] theorem engineIdle_bridge (d : Device) :
    (d.engineIdle).bridge = d.bridge := rfl
@[simp] theorem engineIdle_trig (d : Device) :
    (d.engineIdle).trig = d.trig := rfl
@[simp] theorem engineIdle_scan (d : Device) :
    (d.engineIdle).scan = d.scan := rfl
@[simp] theorem engineIdle_stations (d : Device) :
    (d.engineIdle).stations = d.stations := rfl
@[simp] theorem engineIdle_hold (d : Device) :
    (d.engineIdle).hold = d.hold := rfl
@[simp] theorem engineIdle_freeCount (d : Device) :
    (d.engineIdle).freeCount = d.freeCount := rfl
@[simp] theorem engineIdle_bus_engine (d : Device) :
    (d.engineIdle).bus.engine = .idle := rfl
@[simp] theorem engineIdle_bus_exchange (d : Device) :
    (d.engineIdle).bus.exchange = none := rfl
@[simp] theorem engineIdle_bus_window (d : Device) :
    (d.engineIdle).bus.window = none := rfl
@[simp] theorem engineIdle_bus_response (d : Device) :
    (d.engineIdle).bus.response = none := rfl
@[simp] theorem engineIdle_bus_observer (d : Device) :
    (d.engineIdle).bus.observer = d.bus.observer := rfl
@[simp] theorem engineIdle_bus_rotation (d : Device) :
    (d.engineIdle).bus.rotation = d.bus.rotation := rfl
@[simp] theorem engineIdle_bus_pollRun (d : Device) :
    (d.engineIdle).bus.pollRun = d.bus.pollRun := rfl
@[simp] theorem engineIdle_bus_nextAction (d : Device) :
    (d.engineIdle).bus.nextAction = d.bus.nextAction := rfl
@[simp] theorem engineIdle_bus_stationSource (d : Device) :
    (d.engineIdle).bus.stationSource = d.bus.stationSource := rfl

@[simp] theorem setReceiver_lines (d : Device) (r : Receiver) :
    (d.setReceiver r).lines = d.lines := rfl
@[simp] theorem setReceiver_tend (d : Device) (r : Receiver) :
    (d.setReceiver r).tend = d.tend := rfl
@[simp] theorem setReceiver_bridge (d : Device) (r : Receiver) :
    (d.setReceiver r).bridge = d.bridge := rfl
@[simp] theorem setReceiver_trig (d : Device) (r : Receiver) :
    (d.setReceiver r).trig = d.trig := rfl
@[simp] theorem setReceiver_scan (d : Device) (r : Receiver) :
    (d.setReceiver r).scan = d.scan := rfl
@[simp] theorem setReceiver_bus (d : Device) (r : Receiver) :
    (d.setReceiver r).bus = d.bus := rfl
@[simp] theorem setReceiver_stations (d : Device) (r : Receiver) :
    (d.setReceiver r).stations = d.stations := rfl
@[simp] theorem setReceiver_hold (d : Device) (r : Receiver) :
    (d.setReceiver r).hold = d.hold := rfl
@[simp] theorem setReceiver_freeCount (d : Device) (r : Receiver) :
    (d.setReceiver r).freeCount = d.freeCount := rfl
@[simp] theorem setReceiver_quay_receiver (d : Device) (r : Receiver) :
    (d.setReceiver r).quay.receiver = r := rfl
@[simp] theorem setReceiver_quay_rxBuffer (d : Device) (r : Receiver) :
    (d.setReceiver r).quay.rxBuffer = d.quay.rxBuffer := rfl
@[simp] theorem setReceiver_quay_replies (d : Device) (r : Receiver) :
    (d.setReceiver r).quay.replies = d.quay.replies := rfl
@[simp] theorem setReceiver_quay_resetAwaiting (d : Device) (r : Receiver) :
    (d.setReceiver r).quay.resetAwaiting = d.quay.resetAwaiting := rfl
@[simp] theorem setReceiver_quay_events (d : Device) (r : Receiver) :
    (d.setReceiver r).quay.events = d.quay.events := rfl
@[simp] theorem setReceiver_quay_link (d : Device) (r : Receiver) :
    (d.setReceiver r).quay.link = d.quay.link := rfl
@[simp] theorem setReceiver_quay_silenceTimer (d : Device) (r : Receiver) :
    (d.setReceiver r).quay.silenceTimer = d.quay.silenceTimer := rfl
@[simp] theorem setReceiver_quay_hostSilent (d : Device) (r : Receiver) :
    (d.setReceiver r).quay.hostSilent = d.quay.hostSilent := rfl
@[simp] theorem setReceiver_quay_transmitter (d : Device) (r : Receiver) :
    (d.setReceiver r).quay.transmitter = d.quay.transmitter := rfl

@[simp] theorem reformAlm_quay (d : Device) :
    (d.reformAlm).quay = d.quay := rfl
@[simp] theorem reformAlm_lines (d : Device) :
    (d.reformAlm).lines = d.lines := rfl
@[simp] theorem reformAlm_tend (d : Device) :
    (d.reformAlm).tend = d.tend := rfl
@[simp] theorem reformAlm_bridge (d : Device) :
    (d.reformAlm).bridge = d.bridge := rfl
@[simp] theorem reformAlm_scan (d : Device) :
    (d.reformAlm).scan = d.scan := rfl
@[simp] theorem reformAlm_bus (d : Device) :
    (d.reformAlm).bus = d.bus := rfl
@[simp] theorem reformAlm_stations (d : Device) :
    (d.reformAlm).stations = d.stations := rfl
@[simp] theorem reformAlm_hold (d : Device) :
    (d.reformAlm).hold = d.hold := rfl
@[simp] theorem reformAlm_freeCount (d : Device) :
    (d.reformAlm).freeCount = d.freeCount := rfl
@[simp] theorem reformAlm_trig_alm (d : Device) :
    (d.reformAlm).trig.alm = d.almCondition := rfl
@[simp] theorem reformAlm_trig_entries (d : Device) :
    (d.reformAlm).trig.entries = d.trig.entries := rfl
@[simp] theorem reformAlm_trig_actions (d : Device) :
    (d.reformAlm).trig.actions = d.trig.actions := rfl
@[simp] theorem reformAlm_trig_releaseTimers (d : Device) :
    (d.reformAlm).trig.releaseTimers = d.trig.releaseTimers := rfl
@[simp] theorem reformAlm_trig_inputs (d : Device) :
    (d.reformAlm).trig.inputs = d.trig.inputs := rfl
@[simp] theorem reformAlm_trig_stationLost (d : Device) :
    (d.reformAlm).trig.stationLost = d.trig.stationLost := rfl

@[simp] theorem pushReply_lines (d : Device) (r : Reply) :
    (d.pushReply r).lines = d.lines := rfl
@[simp] theorem pushReply_tend (d : Device) (r : Reply) :
    (d.pushReply r).tend = d.tend := rfl
@[simp] theorem pushReply_bridge (d : Device) (r : Reply) :
    (d.pushReply r).bridge = d.bridge := rfl
@[simp] theorem pushReply_trig (d : Device) (r : Reply) :
    (d.pushReply r).trig = d.trig := rfl
@[simp] theorem pushReply_scan (d : Device) (r : Reply) :
    (d.pushReply r).scan = d.scan := rfl
@[simp] theorem pushReply_bus (d : Device) (r : Reply) :
    (d.pushReply r).bus = d.bus := rfl
@[simp] theorem pushReply_stations (d : Device) (r : Reply) :
    (d.pushReply r).stations = d.stations := rfl
@[simp] theorem pushReply_hold (d : Device) (r : Reply) :
    (d.pushReply r).hold = d.hold := rfl
@[simp] theorem pushReply_freeCount (d : Device) (r : Reply) :
    (d.pushReply r).freeCount = d.freeCount := rfl

@[simp] theorem queueEvent_lines (d : Device) (e : Event) :
    (d.queueEvent e).lines = d.lines := rfl
@[simp] theorem queueEvent_tend (d : Device) (e : Event) :
    (d.queueEvent e).tend = d.tend := rfl
@[simp] theorem queueEvent_bridge (d : Device) (e : Event) :
    (d.queueEvent e).bridge = d.bridge := rfl
@[simp] theorem queueEvent_trig (d : Device) (e : Event) :
    (d.queueEvent e).trig = d.trig := rfl
@[simp] theorem queueEvent_scan (d : Device) (e : Event) :
    (d.queueEvent e).scan = d.scan := rfl
@[simp] theorem queueEvent_bus (d : Device) (e : Event) :
    (d.queueEvent e).bus = d.bus := rfl
@[simp] theorem queueEvent_stations (d : Device) (e : Event) :
    (d.queueEvent e).stations = d.stations := rfl
@[simp] theorem queueEvent_hold (d : Device) (e : Event) :
    (d.queueEvent e).hold = d.hold := rfl
@[simp] theorem queueEvent_freeCount (d : Device) (e : Event) :
    (d.queueEvent e).freeCount = d.freeCount := rfl

@[simp] theorem placeSample_lines (d : Device) (x : Sample) :
    (d.placeSample x).lines = d.lines := rfl
@[simp] theorem placeSample_tend (d : Device) (x : Sample) :
    (d.placeSample x).tend = d.tend := rfl
@[simp] theorem placeSample_bridge (d : Device) (x : Sample) :
    (d.placeSample x).bridge = d.bridge := rfl
@[simp] theorem placeSample_trig (d : Device) (x : Sample) :
    (d.placeSample x).trig = d.trig := rfl
@[simp] theorem placeSample_scan (d : Device) (x : Sample) :
    (d.placeSample x).scan = d.scan := rfl
@[simp] theorem placeSample_bus (d : Device) (x : Sample) :
    (d.placeSample x).bus = d.bus := rfl
@[simp] theorem placeSample_stations (d : Device) (x : Sample) :
    (d.placeSample x).stations = d.stations := rfl
@[simp] theorem placeSample_hold (d : Device) (x : Sample) :
    (d.placeSample x).hold = d.hold := rfl
@[simp] theorem placeSample_freeCount (d : Device) (x : Sample) :
    (d.placeSample x).freeCount = d.freeCount := rfl

end Sys2Proof.Machine
end

