-- ==== Sys2Proof/Laws/Quay.lean ====
section
/-! SUPPORT. The up-link queues: what the arrival of an event, a reply or a sample may change of the Quay Port. -/

namespace Sys2Proof.Machine

/-- What every block's work leaves of the Quay Port: only events, replies' departure, telemetry and the frame being sent
may change, and the event queue stays within its sixteen places. -/
structure QuayKept (q q' : QuayPort) : Prop where
  link : q'.link = q.link
  receiver : q'.receiver = q.receiver
  rxBuffer : q'.rxBuffer = q.rxBuffer
  resetAwaiting : q'.resetAwaiting = q.resetAwaiting
  silenceTimer : q'.silenceTimer = q.silenceTimer
  hostSilent : q'.hostSilent = q.hostSilent
  replies : q'.replies.length ≤ q.replies.length
  events : q.events.length ≤ 16 → q'.events.length ≤ 16

theorem QuayKept.rfl' (q : QuayPort) : QuayKept q q :=
  ⟨rfl, rfl, rfl, rfl, rfl, rfl, le_refl _, id⟩

theorem QuayKept.of_eq {q q' : QuayPort} (h : q' = q) : QuayKept q q' := h ▸ QuayKept.rfl' q

theorem QuayKept.trans {a b c : QuayPort} (h : QuayKept a b) (k : QuayKept b c) : QuayKept a c where
  link := k.link.trans h.link
  receiver := k.receiver.trans h.receiver
  rxBuffer := k.rxBuffer.trans h.rxBuffer
  resetAwaiting := k.resetAwaiting.trans h.resetAwaiting
  silenceTimer := k.silenceTimer.trans h.silenceTimer
  hostSilent := k.hostSilent.trans h.hostSilent
  replies := k.replies.trans h.replies
  events := fun e => k.events (h.events e)

/-- R170: an arrival keeps the queue within sixteen events. -/
theorem enterEvent_length (l : List Event) (o : Bool) (e : Event) (h : l.length ≤ 16) :
    (enterEvent l o e).1.length ≤ 16 := by
  unfold enterEvent
  split
  · simp; omega
  · split
    · split
      · rename_i h2
        obtain ⟨x, hx, hp⟩ := List.any_eq_true.mp h2
        have := List.length_eraseP_of_mem (p := fun x => decide (x.severity ≠ Severity.alarm)) hx hp
        rw [List.length_append, this]
        simp only [List.length_cons, List.length_nil]
        omega
      · exact h
    · exact h

/-- The arbiter takes one waiting item at most. -/
theorem startNext_kept (q : QuayPort) : QuayKept q q.startNext := by
  unfold QuayPort.startNext
  split
  · exact QuayKept.rfl' q
  · split
    · rename_i h; refine ⟨rfl, rfl, rfl, rfl, rfl, rfl, ?_, id⟩; simp [h]
    · rename_i h
      split
      · rename_i h2; refine ⟨rfl, rfl, rfl, rfl, rfl, rfl, le_refl _, ?_⟩; simp [h2]; omega
      · split
        · exact ⟨rfl, rfl, rfl, rfl, rfl, rfl, le_refl _, id⟩
        · exact QuayKept.rfl' q

/-- A block's event. -/
theorem queueEvent_kept (d : Device) (e : Event) : QuayKept d.quay (d.queueEvent e).quay := by
  refine QuayKept.trans ⟨?_, ?_, ?_, ?_, ?_, ?_, ?_, ?_⟩ (startNext_kept _)
  case refine_8 => exact fun h => enterEvent_length _ _ _ h
  all_goals rfl

/-- A sample placed. -/
theorem placeSample_kept (d : Device) (x : Sample) : QuayKept d.quay (d.placeSample x).quay := by
  refine QuayKept.trans ⟨?_, ?_, ?_, ?_, ?_, ?_, ?_, ?_⟩ (startNext_kept _)
  case refine_8 => exact id
  all_goals rfl

/-- A reply adds at most one place to the reply queue, and leaves the rest as an arrival does. -/
theorem pushReply_replies (d : Device) (r : Reply) :
    (d.pushReply r).quay.replies.length ≤ d.quay.replies.length + 1 := by
  have := (startNext_kept { d.quay with replies := d.quay.replies ++ [r] }).replies
  simpa [Device.pushReply] using this

theorem pushReply_rxBuffer (d : Device) (r : Reply) : (d.pushReply r).quay.rxBuffer = d.quay.rxBuffer :=
  (startNext_kept { d.quay with replies := d.quay.replies ++ [r] }).rxBuffer

theorem pushReply_link (d : Device) (r : Reply) : (d.pushReply r).quay.link = d.quay.link :=
  (startNext_kept { d.quay with replies := d.quay.replies ++ [r] }).link

theorem pushReply_events (d : Device) (r : Reply) (h : d.quay.events.length ≤ 16) :
    (d.pushReply r).quay.events.length ≤ 16 :=
  (startNext_kept { d.quay with replies := d.quay.replies ++ [r] }).events h

end Sys2Proof.Machine
end

