-- ==== Sys2Proof/Laws/Work.lean ====
section
/-! SUPPORT. What the work on lines may change: the end of a slot, an entry into FAULT, a release's end, a firing and a
delivery touch of a line its state, resync mark, fault cause and trigger action in flight, and of the rest the lists
that the work is about. One lemma for each operation; a longer work is a chain of them. -/

namespace Sys2Proof.Machine

/-- What work on lines leaves alone. -/
structure Work (d d' : Device) : Prop where
  lines : ∀ i : LineId, d'.lines[i].unworked = d.lines[i].unworked
  stations : d'.stations = d.stations
  hold : d'.hold = d.hold
  freeCount : d'.freeCount = d.freeCount
  inputs : d'.trig.inputs = d.trig.inputs
  stationLost : d'.trig.stationLost = d.trig.stationLost
  posted : d'.bridge.posted = d.bridge.posted
  nextOrder : d'.bridge.nextOrder = d.bridge.nextOrder
  scan : d'.scan = { d.scan with followUp := d'.scan.followUp }
  bus : d'.bus = { d.bus with exchange := d'.bus.exchange }
  quay : QuayKept d.quay d'.quay

theorem Work.refl (d : Device) : Work d d :=
  ⟨fun _ => rfl, rfl, rfl, rfl, rfl, rfl, rfl, rfl, rfl, rfl, QuayKept.rfl' _⟩

theorem Work.trans {a b c : Device} (h : Work a b) (k : Work b c) : Work a c where
  lines i := (k.lines i).trans (h.lines i)
  stations := k.stations.trans h.stations
  hold := k.hold.trans h.hold
  freeCount := k.freeCount.trans h.freeCount
  inputs := k.inputs.trans h.inputs
  stationLost := k.stationLost.trans h.stationLost
  posted := k.posted.trans h.posted
  nextOrder := k.nextOrder.trans h.nextOrder
  scan := by rw [k.scan, h.scan]
  bus := by rw [k.bus, h.bus]
  quay := h.quay.trans k.quay

/-- A chain of works. -/
theorem Work.foldl {α : Type} (f : Device → α → Device) (hf : ∀ d x, Work d (f d x)) (l : List α) (d : Device) :
    Work d (l.foldl f d) := by
  induction l generalizing d with
  | nil => exact Work.refl d
  | cons x xs ih => exact (hf d x).trans (ih _)

/-- A choice between works. -/
theorem Work.ite {c : Prop} [Decidable c] {d a b : Device} (h : Work d a) (k : Work d b) :
    Work d (if c then a else b) := by
  split <;> assumption

/-- Writing a line record with the same unworked part. -/
theorem setLine_work (d : Device) (i : LineId) (r : LineRecord) (h : r.unworked = d.lines[i].unworked) :
    Work d (d.setLine i r) where
  lines j := by
    show (put d.lines i r)[j].unworked = _
    rw [put_get]
    split
    · rename_i e; rw [h, e]
    · rfl
  stations := rfl
  hold := rfl
  freeCount := rfl
  inputs := rfl
  stationLost := rfl
  posted := rfl
  nextOrder := rfl
  scan := rfl
  bus := rfl
  quay := QuayKept.rfl' _

theorem queueEvent_work (d : Device) (e : Event) : Work d (d.queueEvent e) :=
  ⟨fun _ => rfl, rfl, rfl, rfl, rfl, rfl, rfl, rfl, rfl, rfl, queueEvent_kept d e⟩

theorem detach_work (d : Device) (o : FrameOwner) : Work d (d.detach o) := by
  unfold Device.detach
  split
  · exact Work.ite ⟨fun _ => rfl, rfl, rfl, rfl, rfl, rfl, rfl, rfl, rfl, rfl, QuayKept.rfl' _⟩ (Work.refl d)
  · exact Work.refl d

/-- R48: only the tend request list and the exchange's mark. -/
theorem removeTend_work (d : Device) (i : LineId) : Work d (d.removeTend i) := by
  have h : Work d { d with tend := d.tend.filter fun t => decide (t.line ≠ i) } :=
    ⟨fun _ => rfl, rfl, rfl, rfl, rfl, rfl, rfl, rfl, rfl, rfl, QuayKept.rfl' _⟩
  exact Work.ite (h.trans (detach_work _ _)) h

theorem setState_work (d : Device) (i : LineId) (s : LineState) : Work d (d.setState i s) := by
  have h : Work d (d.updLine i fun r => { r with state := s }) := setLine_work d i _ rfl
  exact Work.ite (h.trans (removeTend_work _ _)) h

theorem setResync_work (d : Device) (i : LineId) : Work d (d.setResync i) := setLine_work d i _ rfl

theorem resyncUnlessFault_work (d : Device) (i : LineId) : Work d (d.resyncUnlessFault i) :=
  Work.ite (Work.refl d) (setResync_work d i)

/-- R10. -/
theorem putFault_work (d : Device) (i : LineId) (c : FaultCause) : Work d (d.putFault i c) := by
  have h : Work d ((d.setState i .fault).updLine i fun r => { r with cause := some c }) :=
    (setState_work d i .fault).trans (setLine_work _ i _ rfl)
  exact Work.ite h (h.trans (queueEvent_work _ _))

theorem restoreState_work (d : Device) (i : LineId) (p : LineState) : Work d (d.restoreState i p) :=
  Work.ite (setState_work d i _) (setState_work d i _)

theorem syncFollowUp_work (d : Device) (i : LineId) : Work d (d.syncFollowUp i) :=
  ⟨fun _ => rfl, rfl, rfl, rfl, rfl, rfl, rfl, rfl, rfl, rfl, QuayKept.rfl' _⟩

theorem setSlot_work (d : Device) (k : SlotId) (x : Slot) : Work d (d.setSlot k x) :=
  ⟨fun _ => rfl, rfl, rfl, rfl, rfl, rfl, rfl, rfl, rfl, rfl, QuayKept.rfl' _⟩

theorem setEntry_work (d : Device) (e : EntryId) (x : TriggerEntry) : Work d (d.setEntry e x) :=
  ⟨fun _ => rfl, rfl, rfl, rfl, rfl, rfl, rfl, rfl, rfl, rfl, QuayKept.rfl' _⟩

theorem reformAlm_work (d : Device) : Work d d.reformAlm :=
  ⟨fun _ => rfl, rfl, rfl, rfl, rfl, rfl, rfl, rfl, rfl, rfl, QuayKept.rfl' _⟩

theorem retries_work (d : Device) (l : List SlotId) : Work d { d with bridge := { d.bridge with retries := l } } :=
  ⟨fun _ => rfl, rfl, rfl, rfl, rfl, rfl, rfl, rfl, rfl, rfl, QuayKept.rfl' _⟩

theorem releaseTimers_work (d : Device) (v : Vector Timer 16) :
    Work d { d with trig := { d.trig with releaseTimers := v } } :=
  ⟨fun _ => rfl, rfl, rfl, rfl, rfl, rfl, rfl, rfl, rfl, rfl, QuayKept.rfl' _⟩

theorem actions_work (d : Device) (l : List ActionRecord) : Work d { d with trig := { d.trig with actions := l } } :=
  ⟨fun _ => rfl, rfl, rfl, rfl, rfl, rfl, rfl, rfl, rfl, rfl, QuayKept.rfl' _⟩

/-- R13 to R16. -/
theorem applyResult_work (d : Device) (c : SlotCommand) (b : SlotState) (res : SlotResult) :
    Work d (d.applyResult c b res) := by
  unfold Device.applyResult
  cases res <;> dsimp only
  case done => exact Work.ite (setState_work _ _ _) (resyncUnlessFault_work _ _)
  case failed => exact Work.ite (putFault_work _ _ _) (resyncUnlessFault_work _ _)
  case actionTimeout => exact Work.ite (putFault_work _ _ _) (resyncUnlessFault_work _ _)
  case noResponse => exact Work.ite (putFault_work _ _ _) (resyncUnlessFault_work _ _)
  case refused => exact Work.ite (putFault_work _ _ _) (resyncUnlessFault_work _ _)
  case preempted => exact Work.ite (Work.ite (restoreState_work _ _ _) (Work.refl d)) (setResync_work _ _)
  case aborted => exact Work.ite (Work.ite (restoreState_work _ _ _) (Work.refl d)) (setResync_work _ _)

/-- R75. -/
theorem endSlot_work (d : Device) (k : SlotId) (res : SlotResult) : Work d (d.endSlot k res) := by
  unfold Device.endSlot
  dsimp only
  split
  · exact Work.refl d
  · split
    · exact (((((setSlot_work d k _).trans (detach_work _ _)).trans (retries_work _ _)).trans
        (applyResult_work _ _ _ _)).trans (setSlot_work _ k _)).trans (syncFollowUp_work _ _)
    · exact Work.refl d

theorem endSlotsWhere_work (d : Device) (p : Slot → Bool) (res : SlotResult) : Work d (d.endSlotsWhere p res) :=
  Work.foldl _ (fun d k => endSlot_work d k res) _ d

theorem endLiveSlot_work (d : Device) (i : LineId) (res : SlotResult) : Work d (d.endLiveSlot i res) := by
  unfold Device.endLiveSlot
  split
  · exact endSlot_work _ _ _
  · exact Work.refl d

/-- R100. -/
theorem clearInFlight_work (d : Device) (i : LineId) : Work d (d.clearInFlight i) := by
  have h : Work d (d.updLine i fun r => { r with triggerInFlight := none }) := setLine_work d i _ rfl
  exact (h.trans (releaseTimers_work _ _)).trans (syncFollowUp_work _ i)

/-- R23. -/
theorem endRelease_work (d : Device) (i : LineId) (done : Bool) : Work d (d.endRelease i done) := by
  refine Work.ite (Work.trans ?_ (clearInFlight_work _ i)) (Work.refl d)
  exact Work.ite (Work.ite (setState_work _ _ _) (putFault_work _ _ _)) (resyncUnlessFault_work _ _)

/-- R98. -/
theorem deliver_work (d : Device) (r : ActionRecord) : Work d (d.deliver r) := by
  exact ((((actions_work d _).trans (setEntry_work _ _ _)).trans (queueEvent_work _ _)).trans
    (setEntry_work _ _ _)).trans (reformAlm_work _)

theorem deliverComplete_work (d : Device) : Work d d.deliverComplete := Work.foldl _ deliver_work _ d

theorem updTarget_work (d : Device) (e : EntryId) (i : LineId) (f : Target → Target) : Work d (d.updTarget e i f) :=
  ⟨fun _ => rfl, rfl, rfl, rfl, rfl, rfl, rfl, rfl, rfl, rfl, QuayKept.rfl' _⟩

/-- R22, R93: the effect on one target. -/
theorem targetEffect_work (a : TriggerAction) (d : Device) (t : Target) : Work d (d.targetEffect a t) := by
  unfold Device.targetEffect
  cases a <;> dsimp only
  case report => exact Work.refl d
  case slacken => exact Work.refl d
  case hold =>
    exact Work.ite (Work.ite (Work.ite (setState_work _ _ _) (Work.refl d))
      ((setResync_work _ _).trans (endLiveSlot_work _ _ _))) (Work.refl d)
  case release =>
    refine Work.ite ?_ (Work.refl d)
    have h : Work d (if d.lines[t.line].state = .releasing then d else d.setState t.line .releasing) :=
      Work.ite (Work.refl d) (setState_work _ _ _)
    split
    · split
      · exact Work.ite h (h.trans (endSlot_work _ _ _))
      · exact h
    · exact h
  case stopAll =>
    exact Work.ite (setState_work _ _ _) (Work.ite (setResync_work _ _) (Work.refl d))

theorem firingEffects_work (d : Device) (a : TriggerAction) (ts : List Target) : Work d (d.firingEffects a ts) := by
  have h : Work d (ts.foldl (Device.targetEffect a) d) := Work.foldl _ (targetEffect_work a) ts d
  exact Work.ite (h.trans (endSlotsWhere_work _ _ _)) h

/-- R91. -/
theorem fire_work (d : Device) (e : EntryId) : Work d (d.fire e) := by
  unfold Device.fire
  dsimp only
  refine Work.ite ((queueEvent_work _ _).trans ((setEntry_work _ _ _).trans (reformAlm_work _))) ?_
  have h := fun (l : List ActionRecord) (ts : List Target) (ev : Event) (x : TriggerEntry) (a : TriggerAction) =>
    ((((queueEvent_work d ev).trans (setEntry_work _ e x)).trans (actions_work _ l)).trans
      (firingEffects_work _ a ts)).trans (reformAlm_work _)
  exact Work.ite ((h _ _ _ _ _).trans (deliver_work _ _)) (h _ _ _ _ _)

/-- R88, R89, R91: the entries take the changes of their conditions. -/
theorem takeCondition_work (d : Device) (e : EntryId) : Work d (d.takeCondition e) :=
  Work.ite (Work.refl d) (Work.ite ((setEntry_work _ _ _).trans (fire_work _ _)) (setEntry_work _ _ _))

theorem takeConditions_work (d : Device) : Work d d.takeConditions := Work.foldl _ takeCondition_work _ d

theorem testLevel_work (d : Device) (e : EntryId) : Work d (d.testLevel e) :=
  Work.ite (fire_work _ _) (Work.refl d)

/-- R97. -/
theorem failTarget_work (d : Device) (p : EntryId × Target) : Work d (d.failTarget p) := by
  refine Work.trans ?_ (clearInFlight_work _ _)
  have h : Work d (d.updTarget p.1 p.2.line fun t => { t with state := .failed }) := updTarget_work _ _ _ _
  exact Work.ite (h.trans (detach_work _ _)) h

theorem failTargets_work (d : Device) (st : StationId) : Work d (d.failTargets st) :=
  (Work.foldl _ failTarget_work _ d).trans (deliverComplete_work _)

end Sys2Proof.Machine
end

