-- ==== Sys2Proof/Laws/Kept.lean ====
section
/-! SUPPORT. What every block's operation keeps of the Quay Port and of the posted queue: the received frames, the
receiver, the link settings and the silence monitor stand; the reply queue and the posted queue do not grow; the event
queue stays within its places. One lemma for each operation. -/

namespace Sys2Proof.Machine

/-- What the operations of the blocks behind the Quay Port keep. -/
structure Kept (d d' : Device) : Prop where
  quay : QuayKept d.quay d'.quay
  posted : d'.bridge.posted.length ≤ d.bridge.posted.length

theorem Kept.of_eq {d d' : Device} (hq : d'.quay = d.quay) (hp : d'.bridge.posted = d.bridge.posted) : Kept d d' :=
  ⟨QuayKept.of_eq hq, by rw [hp]⟩

theorem Kept.refl (d : Device) : Kept d d := Kept.of_eq rfl rfl

theorem Kept.trans {a b c : Device} (h : Kept a b) (k : Kept b c) : Kept a c :=
  ⟨h.quay.trans k.quay, k.posted.trans h.posted⟩

theorem Work.kept {d d' : Device} (h : Work d d') : Kept d d' := ⟨h.quay, by rw [h.posted]⟩

theorem Kept.foldl {α : Type} (f : Device → α → Device) (hf : ∀ d x, Kept d (f d x)) (l : List α) (d : Device) :
    Kept d (l.foldl f d) := by
  induction l generalizing d with
  | nil => exact Kept.refl d
  | cons x xs ih => exact (hf d x).trans (ih _)

theorem Kept.ite {c : Prop} [Decidable c] {d a b : Device} (h : Kept d a) (k : Kept d b) :
    Kept d (if c then a else b) := by
  split <;> assumption

/-! ### Shared operations -/

theorem pollList_kept (d : Device) (l : List PollEntry) : Kept d { d with scan := { d.scan with pollList := l } } :=
  Kept.of_eq rfl rfl

theorem nextAction_kept (d : Device) (v : Vector ActionNo 16) : Kept d { d with bus := { d.bus with nextAction := v } } :=
  Kept.of_eq rfl rfl

theorem stationLost_kept (d : Device) (v : Vector Bool 16) : Kept d { d with trig := { d.trig with stationLost := v } } :=
  Kept.of_eq rfl rfl

theorem updLine_kept (d : Device) (i : LineId) (f : LineRecord → LineRecord) : Kept d (d.updLine i f) :=
  Kept.of_eq rfl rfl

theorem updStation_kept (d : Device) (st : StationId) (f : StationRecord → StationRecord) :
    Kept d (d.updStation st f) := Kept.of_eq rfl rfl

theorem queueEvent_keeps (d : Device) (e : Event) : Kept d (d.queueEvent e) := (queueEvent_work d e).kept

theorem placeSample_keeps (d : Device) (x : Sample) : Kept d (d.placeSample x) :=
  ⟨placeSample_kept d x, le_refl _⟩

theorem detach_kept (d : Device) (o : FrameOwner) : Kept d (d.detach o) := (detach_work d o).kept

/-- R65: the queue only loses entries. -/
theorem removePosted_kept (d : Device) (p : PostedEntry → Bool) (r : UndeliveredReason) :
    Kept d (d.removePosted p r) := by
  have h : Kept d { d with bridge := { d.bridge with posted := d.bridge.posted.filter fun x => !p x } } :=
    ⟨QuayKept.rfl' _, List.length_filter_le _ _⟩
  exact Kept.trans (Kept.ite (h.trans (detach_kept _ _)) h) (Kept.foldl _ queueEvent_keeps _ _)

theorem dropStation_kept (d : Device) (p : StationItem → Bool) : Kept d (d.dropStation p) := by
  have h : Kept d { d with bus := { d.bus with stationSource := d.bus.stationSource.filter fun x => !p x } } :=
    Kept.of_eq rfl rfl
  unfold Device.dropStation
  dsimp only
  split
  · exact Kept.ite (h.trans (detach_kept _ _)) h
  · exact h

theorem placeStation_kept (d : Device) (st : StationId) (f : StationFrame) : Kept d (d.placeStation st f) :=
  Kept.of_eq rfl rfl

theorem placeStop_kept (d : Device) (st : StationId) (drum : Drum) : Kept d (d.placeStop st drum) :=
  Kept.ite (Kept.refl d) (placeStation_kept _ _ _)

/-! ### Scan Unit -/

theorem setProbe_kept (d : Device) (st : StationId) (t : Timer) : Kept d (d.setProbe st t) := Kept.of_eq rfl rfl

theorem syncProbe_kept (d : Device) (st : StationId) : Kept d (d.syncProbe st) :=
  Kept.ite (Kept.ite (Kept.refl d) (Kept.of_eq rfl rfl)) (Kept.of_eq rfl rfl)

theorem closeSweep_kept (d : Device) : Kept d d.closeSweep := by
  unfold Device.closeSweep
  split
  · exact Kept.refl d
  · refine Kept.ite (Kept.of_eq rfl rfl) ?_
    have h : Kept d { d with scan := { d.scan with sweep := none } } := Kept.of_eq rfl rfl
    exact (h.trans (queueEvent_keeps _ _)).trans (Kept.of_eq rfl rfl)

theorem startSweep_kept (d : Device) : Kept d d.startSweep := by
  have h : ∀ (p : LineId) (w : Sweep), Kept d { d with scan := { d.scan with pointer := p, sweep := some w } } :=
    fun _ _ => Kept.of_eq rfl rfl
  exact Kept.ite ((h _ _).trans (closeSweep_kept _)) ((h _ _).trans
    (Kept.foldl (fun d i => d.makeLineDue true false i) (fun d _ => pollList_kept d _) _ _))

theorem applyConfig_kept (d : Device) (c : ScanConfig) : Kept d (d.applyConfig c) := by
  have h : Kept d { d with scan := { d.scan with
      config := c, pending := none, intervalTimer := none, sweepDue := false } } := Kept.of_eq rfl rfl
  unfold Device.applyConfig
  dsimp only
  split
  · exact h
  · exact h.trans (startSweep_kept _)
  · exact h.trans (startSweep_kept _)
  all_goals exact (h.trans (startSweep_kept _)).trans (Kept.of_eq rfl rfl)

theorem finishSweep_kept (d : Device) : Kept d d.finishSweep := by
  unfold Device.finishSweep
  dsimp only
  refine Kept.ite (Kept.ite ?_ (closeSweep_kept d)) ?_
  · split
    · exact (closeSweep_kept d).trans (applyConfig_kept _ _)
    · refine (closeSweep_kept d).trans (Kept.trans ?_ (startSweep_kept _))
      exact Kept.of_eq rfl rfl
  · split
    · exact (closeSweep_kept d).trans (applyConfig_kept _ _)
    · exact closeSweep_kept d

theorem checkSweep_kept (d : Device) : Kept d d.checkSweep := by
  unfold Device.checkSweep
  split
  · exact Kept.ite (finishSweep_kept d) (Kept.refl d)
  · exact Kept.refl d

theorem updSweep_kept (d : Device) (f : Sweep → Sweep) : Kept d (d.updSweep f) := Kept.of_eq rfl rfl

theorem memberDone_kept (d : Device) (i : LineId) (b : Bool) : Kept d (d.memberDone i b) :=
  (updSweep_kept d _).trans (checkSweep_kept _)

theorem pruneHead_kept (n : Nat) (d : Device) : Kept d (Device.pruneHead n d) := by
  induction n generalizing d with
  | zero => exact Kept.refl d
  | succ n ih =>
    unfold Device.pruneHead
    split
    · exact Kept.refl d
    · rename_i rest _
      have h : Kept d { d with scan := { d.scan with pollList := rest } } := Kept.of_eq rfl rfl
      exact Kept.ite (Kept.refl d) (Kept.trans (Kept.ite (h.trans (memberDone_kept _ _ _)) h) (ih _))
    · exact Kept.ite (Kept.refl d) (Kept.trans (pollList_kept d _) (ih _))

theorem intervalExpires_kept (d : Device) : Kept d d.intervalExpires := by
  have h : ∀ t : Timer, Kept d { d with scan := { d.scan with intervalTimer := t } } := fun _ => Kept.of_eq rfl rfl
  unfold Device.intervalExpires
  dsimp only
  refine Kept.ite (Kept.refl d) ?_
  split
  · split
    · exact (h _).trans (applyConfig_kept _ _)
    · exact (h _).trans (startSweep_kept _)
  · refine Kept.ite (Kept.trans ?_ (queueEvent_keeps _ _)) (h _)
    exact Kept.of_eq rfl rfl

theorem followUpExpires_kept (d : Device) (i : LineId) : Kept d (d.followUpExpires i) :=
  Kept.ite (Kept.refl d) (Kept.ite (Kept.of_eq rfl rfl) (Kept.of_eq rfl rfl))

theorem probeExpires_kept (d : Device) (st : StationId) : Kept d (d.probeExpires st) :=
  Kept.ite (Kept.refl d) (Kept.ite (Kept.of_eq rfl rfl) (Kept.of_eq rfl rfl))

/-! ### Station Monitor -/

theorem raiseChange_kept (d : Device) (st : StationId) (f : ChangeFlags) : Kept d (d.raiseChange st f) :=
  Kept.ite ((updStation_kept d st _).trans (queueEvent_keeps _ _)) (updStation_kept d st _)

theorem resyncStation_kept (d : Device) (st : StationId) : Kept d (d.resyncStation st) :=
  Kept.foldl _ (fun d i => (setResync_work d i).kept) _ d

theorem endOperation_kept (d : Device) (st : StationId) (op : StationOp) (o : OpOutcome) :
    Kept d (d.endOperation st op o) := (dropStation_kept d _).trans (updStation_kept _ _ _)

theorem gainPresence_kept (d : Device) (st : StationId) : Kept d (d.gainPresence st).1 := by
  unfold Device.gainPresence
  dsimp only
  split
  · exact ((updStation_kept d st _).trans (resyncStation_kept _ st)).trans (syncProbe_kept _ st)
  · exact Kept.refl d

theorem completeReset_kept (d : Device) (st : StationId) (b : Bool) : Kept d (d.completeReset st b).1 := by
  unfold Device.completeReset
  split
  · have h : Kept d (if (d.stationOperation st).isSome then d.endOperation st .reset .acked else d) :=
      Kept.ite (endOperation_kept _ _ _ _) (Kept.refl d)
    have k := (h.trans (updStation_kept _ st fun r => { r with resetting := false }))
    exact (k.trans (nextAction_kept _ (put _ st 0))).trans (resyncStation_kept _ st)
  · exact Kept.refl d

theorem compareParked_kept (d : Device) (st : StationId) (b : Bool) : Kept d (d.compareParked st b).1 := by
  unfold Device.compareParked
  split
  · exact Kept.refl d
  · exact (updStation_kept d st _).trans (syncProbe_kept _ st)

theorem storeDrive_kept (d : Device) (st : StationId) (drum : Drum) (s : DriveStatus) :
    Kept d (d.storeDrive st drum s).1 := Kept.of_eq rfl rfl

/-- R138. -/
theorem monitorResponse_kept (d : Device) (st : StationId) (a : Answer) : Kept d (d.monitorResponse st a) := by
  have h := (updStation_kept d st fun r => { r with missed := 0 }).trans (gainPresence_kept _ st)
  unfold Device.monitorResponse
  dsimp only
  split
  · exact h.trans (raiseChange_kept _ _ _)
  · exact h.trans (raiseChange_kept _ _ _)
  · exact (((h.trans (completeReset_kept _ _ _)).trans (compareParked_kept _ _ _)).trans
      (storeDrive_kept _ _ _ _)).trans (raiseChange_kept _ _ _)

/-- R140. -/
theorem dropOut_kept (d : Device) (st : StationId) : Kept d (d.dropOut st) := by
  have h := fun l : List LineId => (updStation_kept d st fun r =>
    { r with presence := .absent, enabled := false, missed := 0, resetting := false }).trans
      (Kept.foldl (fun d i => (d.putFault i .stationLost).clearInFlight i)
        (fun d i => ((putFault_work d i _).trans (clearInFlight_work _ i)).kept) l _)
  exact (((((((((h _).trans (endSlotsWhere_work _ _ _).kept).trans (removePosted_kept _ _ _)).trans
    (dropStation_kept _ _)).trans (dropStation_kept _ _)).trans (failTargets_work _ _).kept).trans
    (syncProbe_kept _ _)).trans (raiseChange_kept _ _ _)).trans (stationLost_kept _ _)).trans (takeConditions_work _).kept

theorem monitorSilence_kept (d : Device) (st : StationId) : Kept d (d.monitorSilence st) :=
  Kept.ite ((updStation_kept d st _).trans (dropOut_kept _ _)) (updStation_kept d st _)

theorem powerReady_kept (d : Device) (st : StationId) : Kept d (d.powerReady st) :=
  (updStation_kept d st _).trans (syncProbe_kept _ st)

theorem switchOn_kept (d : Device) (st : StationId) : Kept d (d.switchOn st) :=
  Kept.ite (powerReady_kept d st) (updStation_kept d st _)

/-- R144. -/
theorem switchOff_kept (d : Device) (st : StationId) : Kept d (d.switchOff st) := by
  have h := fun l : List LineId =>
    (updStation_kept d st fun r => { r with power := .off, powerGood := none, presence := .absent }).trans
      (Kept.foldl (fun d i => d.putFault i .stationLost) (fun d i => (putFault_work d i _).kept) l _)
  exact (((((((((h _).trans (endSlotsWhere_work _ _ _).kept).trans (removePosted_kept _ _ _)).trans
    (dropStation_kept _ _)).trans (dropStation_kept _ _)).trans (updStation_kept _ _ _)).trans
    (failTargets_work _ _).kept).trans (updStation_kept _ _ _)).trans (syncProbe_kept _ _)).trans
    (raiseChange_kept _ _ _)

theorem switchPower_kept (d : Device) (st : StationId) (on : Bool) : Kept d (d.switchPower st on) := by
  unfold Device.switchPower
  split
  · exact switchOn_kept d st
  all_goals first | exact Kept.refl d | exact switchOff_kept d st

theorem operationAcked_kept (d : Device) (st : StationId) (op : StationOp) : Kept d (d.operationAcked st op) := by
  have h := endOperation_kept d st op .acked
  unfold Device.operationAcked
  cases op
  · exact ((h.trans (updStation_kept _ _ _)).trans (syncProbe_kept _ _)).trans (raiseChange_kept _ _ _)
  · exact h
  · exact h

theorem operationNotTaken_kept (d : Device) (st : StationId) (op : StationOp) :
    Kept d (d.operationNotTaken st op) := by
  have h := endOperation_kept d st op .notTaken
  unfold Device.operationNotTaken
  cases op
  · exact h.trans (raiseChange_kept _ _ _)
  · exact h.trans (raiseChange_kept _ _ _)
  · exact (h.trans (updStation_kept _ _ _)).trans (raiseChange_kept _ _ _)

/-! ### Tending Unit -/

theorem refuseStep_kept (d : Device) (i : LineId) (dir : TendDirection) (n : Nat) : Kept d (d.refuseStep i dir n) :=
  Kept.ite (Kept.refl d) ((queueEvent_keeps d _).trans (updLine_kept _ _ _))

theorem tend_kept (d : Device) (l : List TendEntry) : Kept d { d with tend := l } := Kept.of_eq rfl rfl

theorem tendDecision_kept (d : Device) (i : LineId) : Kept d (d.tendDecision i) := by
  unfold Device.tendDecision
  dsimp only
  split
  · exact tend_kept d _
  · exact Kept.ite (tend_kept d _) ((refuseStep_kept d _ _ _).trans (tend_kept _ _))

theorem recheckTend_kept (d : Device) (i : LineId) : Kept d (d.recheckTend i) := by
  unfold Device.recheckTend
  split
  · exact Kept.refl d
  · exact Kept.ite (Kept.refl d) ((tend_kept d _).trans (refuseStep_kept _ _ _ _))

/-! ### Tension Evaluator -/

theorem changeBand_kept (d : Device) (i : LineId) (b : Band) : Kept d (d.changeBand i b) :=
  (updLine_kept d i _).trans (queueEvent_keeps _ _)

theorem endTending_kept (d : Device) (i : LineId) : Kept d (d.endTending i) :=
  Kept.ite (setState_work _ _ _).kept (Kept.refl d)

theorem bandStages_kept (d : Device) (i : LineId) : Kept d (d.bandStages i) := by
  have hc : Kept d (d.candidateStage i) := by
    unfold Device.candidateStage
    dsimp only
    split
    · exact Kept.ite ((changeBand_kept d i _).trans (takeConditions_work _).kept) (updLine_kept d i _)
    · exact updLine_kept d i _
  exact Kept.ite ((((changeBand_kept d i _).trans (queueEvent_keeps _ _)).trans (endTending_kept _ i)).trans
    (takeConditions_work _).kept) (Kept.ite (updLine_kept d i _) hc)

theorem offerSample_kept (d : Device) (i : LineId) (rep : Report) (b : Bool) : Kept d (d.offerSample i rep b) :=
  Kept.ite ((updLine_kept d i _).trans (placeSample_keeps _ _)) (Kept.ite (updLine_kept d i _)
    (Kept.ite ((updLine_kept d i _).trans (placeSample_keeps _ _)) (updLine_kept d i _)))

theorem handOver_kept (d : Device) (i : LineId) (rep : Report) (b : Bool) : Kept d (d.handOver i rep b) := by
  unfold Device.handOver
  dsimp only
  refine Kept.trans ?_ (offerSample_kept _ _ _ _)
  have h : Kept d (if b then d.updLine i fun r => { r with lengthLimit := false } else d) :=
    Kept.ite (updLine_kept d i _) (Kept.refl d)
  exact Kept.ite (h.trans (tendDecision_kept _ _)) h

theorem evaluate_kept (d : Device) (i : LineId) (rep : Report) : Kept d (d.evaluate i rep) :=
  ((updLine_kept d i _).trans (bandStages_kept _ i)).trans (handOver_kept _ _ _ _)

/-- R27 to R31. -/
theorem takeSample_kept (d : Device) (i : LineId) (rep : Report) : Kept d (d.takeSample i rep) := by
  have h := updLine_kept d i fun r => { r with lastRaw := some rep.raw }
  unfold Device.takeSample
  dsimp only
  refine Kept.ite (Kept.ite ?_ ?_) ?_
  · split
    · exact h.trans (updLine_kept _ _ _)
    · exact ((h.trans (updLine_kept _ _ _)).trans (queueEvent_keeps _ _)).trans (endTending_kept _ _)
    · exact h
  · split
    · exact h.trans (evaluate_kept _ _ _)
    · exact (h.trans (updLine_kept _ _ _)).trans (evaluate_kept _ _ _)
    · exact ((h.trans (queueEvent_keeps _ _)).trans (updLine_kept _ _ _)).trans (evaluate_kept _ _ _)
  · split
    · exact h.trans (evaluate_kept _ _ _)
    · exact h.trans (evaluate_kept _ _ _)
    · exact h

/-! ### Line Table -/

theorem matchSlot_kept (d : Device) (i : LineId) (rep : Report) : Kept d (d.matchSlot i rep) := by
  unfold Device.matchSlot
  dsimp only
  split
  · exact Kept.refl d
  · refine Kept.ite ?_ (Kept.refl d)
    split
    · exact (endSlot_work _ _ _).kept
    · exact (endSlot_work _ _ _).kept
    all_goals exact Kept.refl d

theorem matchTrigger_kept (d : Device) (i : LineId) (rep : Report) : Kept d (d.matchTrigger i rep) := by
  unfold Device.matchTrigger
  split
  · exact Kept.refl d
  · refine Kept.ite ?_ (Kept.refl d)
    split
    · exact (endRelease_work _ _ _).kept
    · exact (endRelease_work _ _ _).kept
    all_goals exact Kept.refl d

theorem reconcile_kept (d : Device) (i : LineId) (rep : Report) : Kept d (d.reconcile i rep) := by
  unfold Device.reconcile
  dsimp only
  refine Kept.ite ?_ (Kept.refl d)
  split
  · exact (setState_work _ _ _).kept.trans (updLine_kept _ _ _)
  · exact Kept.ite ((updLine_kept d i _).trans (putFault_work _ _ _).kept) (Kept.refl d)

/-- R11. -/
theorem lineReport_kept (d : Device) (i : LineId) (rep : Report) : Kept d (d.lineReport i rep) := by
  have jam : ∀ (d : Device) (l : Latch), Kept d (d.jamSlot i l) := fun d l =>
    Kept.ite (endLiveSlot_work d i .failed).kept (Kept.refl d)
  have jamT : ∀ (d : Device) (l : Latch) (b : Bool), Kept d (d.jamTrigger i l b) := fun d l b =>
    Kept.ite (endRelease_work d i false).kept (Kept.refl d)
  exact (((((((updLine_kept d i _).trans (recheckTend_kept _ i)).trans (jam _ _)).trans (matchSlot_kept _ _ _)).trans
    (matchTrigger_kept _ _ _)).trans (jamT _ _ _)).trans (reconcile_kept _ _ _)).trans (takeSample_kept _ _ _)

theorem stationReport_kept (d : Device) (st : StationId) (rep : Report) : Kept d (d.stationReport st rep) := by
  unfold Device.stationReport
  split
  · exact lineReport_kept _ _ _
  · exact Kept.refl d

/-! ### Station Bus Controller -/

theorem updPosted_kept (d : Device) (f : PostedEntry → PostedEntry) : Kept d (d.updPosted f) := by
  unfold Device.updPosted
  split
  · exact Kept.refl d
  · rename_i h
    exact ⟨QuayKept.rfl' _, by simp [h]⟩

theorem updStationHead_kept (d : Device) (f : StationItem → StationItem) : Kept d (d.updStationHead f) := by
  unfold Device.updStationHead
  split
  · exact Kept.refl d
  · exact Kept.of_eq rfl rfl

theorem ownerSent_kept (d : Device) (o : Offer) (a : ActionNo) : Kept d (d.ownerSent o a) := by
  unfold Device.ownerSent
  split
  · refine Kept.ite ?_ (updTarget_work _ _ _ _).kept
    exact (((updTarget_work d _ _ _).kept.trans (updLine_kept _ _ _)).trans (releaseTimers_work _ _).kept).trans
      (syncFollowUp_work _ _).kept
  · exact Kept.refl d
  · exact Kept.ite (Kept.of_eq rfl rfl) (Kept.of_eq rfl rfl)
  · exact Kept.of_eq rfl rfl
  · exact updPosted_kept d _
  · exact Kept.of_eq rfl rfl
  · exact Kept.of_eq rfl rfl
  · exact updStationHead_kept d _

theorem takeAction_kept (d : Device) (o : Offer) : Kept d (d.takeAction o) := by
  unfold Device.takeAction
  split
  · exact Kept.ite (Kept.refl d) (Kept.of_eq rfl rfl)
  · exact Kept.refl d

theorem send_kept (d : Device) (o : Offer) : Kept d (d.send o) :=
  ((ownerSent_kept d o _).trans (takeAction_kept _ o)).trans (Kept.of_eq rfl rfl)

theorem sendPoll_kept (d : Device) (o : Offer) : Kept d (d.sendPoll o) := (send_kept d o).trans (Kept.of_eq rfl rfl)

theorem sendThree_kept (d : Device) (p : ClassThree × Offer) : Kept d (d.sendThree p) :=
  (send_kept d p.2).trans (Kept.of_eq rfl rfl)

/-- R106 to R108. -/
theorem choose_kept (d : Device) : Kept d d.choose := by
  have h34 : Kept d d.choosePollOrThree := by
    unfold Device.choosePollOrThree
    dsimp only
    refine (pruneHead_kept 64 d).trans ?_
    split
    · exact sendPoll_kept _ _
    · split
      · exact sendThree_kept _ _
      · exact Kept.refl _
  refine Kept.ite ?_ (Kept.refl d)
  unfold Device.chooseFree
  split
  · exact send_kept _ _
  · refine Kept.ite ?_ h34
    split
    · exact sendThree_kept _ _
    · exact h34

/-- The end of a command's work. -/
theorem settle_kept (d : Device) : Kept d d.settle := (choose_kept d).trans (reformAlm_work _).kept

theorem engineIdle_kept (d : Device) : Kept d d.engineIdle := Kept.of_eq rfl rfl

theorem setObserver_kept (d : Device) (o : Observer) : Kept d (d.setObserver o) := Kept.of_eq rfl rfl

/-- R113. -/
theorem loseArbitration_kept (d : Device) (x : Exchange) : Kept d (d.loseArbitration x) := by
  have hu : ∀ d : Device, Kept d (d.ownerUnsent x) := by
    intro d
    unfold Device.ownerUnsent
    split
    · refine Kept.ite ?_ (updTarget_work _ _ _ _).kept
      exact (((updTarget_work d _ _ _).kept.trans (updLine_kept _ _ _)).trans (releaseTimers_work _ _).kept).trans
        (syncFollowUp_work _ _).kept
    · exact Kept.refl d
    · exact Kept.ite (Kept.of_eq rfl rfl) (Kept.of_eq rfl rfl)
    · exact Kept.of_eq rfl rfl
    · exact updPosted_kept d _
    · exact Kept.ite (Kept.of_eq rfl rfl) (Kept.of_eq rfl rfl)
    · exact Kept.of_eq rfl rfl
    · exact updStationHead_kept d _
  have h : Kept d (if x.detached then d.engineIdle else d.engineIdle.ownerUnsent x) :=
    Kept.ite (engineIdle_kept d) ((engineIdle_kept d).trans (hu _))
  exact h.trans (Kept.of_eq rfl rfl)

theorem triggerEnd_kept (d : Device) (e : EntryId) (i : LineId) (r : CommandEnd) : Kept d (d.triggerEnd e i r) := by
  have hf : Kept d ((if decide (d.trig.entries[e].action = .release) then
      (d.updTarget e i fun t => { t with state := .failed }).endRelease i false
      else d.updTarget e i fun t => { t with state := .failed }).deliverComplete) :=
    Kept.trans (Kept.ite ((updTarget_work d e i _).kept.trans (endRelease_work _ _ _).kept)
      (updTarget_work d e i _).kept) (deliverComplete_work _).kept
  unfold Device.triggerEnd
  dsimp only
  split
  · exact Kept.refl d
  · split
    · refine Kept.trans ?_ (deliverComplete_work _).kept
      exact Kept.ite ((updTarget_work d e i _).kept.trans (releaseTimers_work _ _).kept) (updTarget_work d e i _).kept
    · exact Kept.ite (updTarget_work d e i _).kept hf
    · exact Kept.ite (updTarget_work d e i _).kept hf

theorem popPosted_kept (d : Device) : Kept d d.popPosted :=
  ⟨QuayKept.rfl' _, by simp [Device.popPosted]⟩

theorem postedEnd_kept (d : Device) (r : CommandEnd) : Kept d (d.postedEnd r) := by
  unfold Device.postedEnd
  split
  · exact Kept.refl d
  · split
    · exact popPosted_kept d
    all_goals exact Kept.ite (updPosted_kept d _) ((popPosted_kept d).trans (queueEvent_keeps _ _))

theorem confirmedEnd_kept (d : Device) (k : SlotId) (r : CommandEnd) : Kept d (d.confirmedEnd k r) := by
  unfold Device.confirmedEnd
  dsimp only
  split
  · exact Kept.refl d
  · split
    · exact ((setSlot_work d k _).trans (syncFollowUp_work _ _)).kept
    all_goals exact Kept.ite (Kept.of_eq rfl rfl) (endSlot_work _ _ _).kept

theorem tendEnd_kept (d : Device) (i : LineId) (r : CommandEnd) : Kept d (d.tendEnd i r) := by
  unfold Device.tendEnd
  dsimp only
  split
  · exact Kept.refl d
  · split
    · exact tend_kept d _
    all_goals exact Kept.ite ((tend_kept d _).trans (recheckTend_kept _ _)) ((tend_kept d _).trans (queueEvent_keeps _ _))

theorem stationEnd_kept (d : Device) (r : CommandEnd) : Kept d (d.stationEnd r) := by
  unfold Device.stationEnd
  split
  · exact Kept.refl d
  · split
    · split
      · exact Kept.of_eq rfl rfl
      · exact operationAcked_kept _ _ _
    all_goals
      refine Kept.ite (Kept.refl d) ?_
      split
      · exact Kept.of_eq rfl rfl
      · exact operationNotTaken_kept _ _ _

theorem commandEnd_kept (d : Device) (o : FrameOwner) (r : CommandEnd) : Kept d (d.commandEnd o r) := by
  unfold Device.commandEnd
  split
  · exact triggerEnd_kept _ _ _ _
  · exact postedEnd_kept _ _
  · exact confirmedEnd_kept _ _ _
  · exact tendEnd_kept _ _ _
  · exact stationEnd_kept _ _
  all_goals exact Kept.refl d

theorem pollEnd_kept (d : Device) (o : FrameOwner) (b : Bool) : Kept d (d.pollEnd o b) := by
  unfold Device.pollEnd
  split
  · exact memberDone_kept _ _ _
  · exact Kept.refl d

theorem ownerSilence_kept (d : Device) (x : Exchange) (b : Bool) : Kept d (d.ownerSilence x b) :=
  Kept.ite (Kept.refl d) (Kept.ite (pollEnd_kept _ _ _) ((commandEnd_kept _ _ _).trans (pollEnd_kept _ _ _)))

theorem ownerTakes_kept (d : Device) (x : Exchange) (st : StationId) (a : Answer) : Kept d (d.ownerTakes x st a) := by
  unfold Device.ownerTakes
  refine Kept.ite (Kept.refl d) ?_
  split
  · exact (commandEnd_kept _ _ _).trans (pollEnd_kept _ _ _)
  · exact (commandEnd_kept _ _ _).trans (pollEnd_kept _ _ _)
  · exact (stationReport_kept _ _ _).trans (pollEnd_kept _ _ _)

/-- R115. -/
theorem endExchange_kept (d : Device) (x : Exchange) (st : StationId) (a : Option Answer) (o : SilenceOrder) :
    Kept d (d.endExchange x st a o) := by
  unfold Device.endExchange
  dsimp only
  split
  · exact ((engineIdle_kept d).trans (monitorResponse_kept _ _ _)).trans (ownerTakes_kept _ _ _ _)
  · refine (engineIdle_kept d).trans ?_
    unfold Device.endSilent
    dsimp only
    split
    · exact (ownerSilence_kept _ _ _).trans (monitorSilence_kept _ _)
    · exact (monitorSilence_kept _ _).trans (ownerSilence_kept _ _ _)

theorem endBroadcast_kept (d : Device) (x : Exchange) : Kept d (d.endBroadcast x) := by
  unfold Device.endBroadcast
  dsimp only
  split
  · split
    · exact (engineIdle_kept d).trans (deliver_work _ _).kept
    · exact engineIdle_kept d
  · exact engineIdle_kept d

/-! ### Local Control -/

theorem startHold_kept (d : Device) (st : StationId) : Kept d (d.startHold st) := Kept.of_eq rfl rfl

theorem takeLine_kept (d : Device) (i : LineId) : Kept d (d.takeLine i) :=
  (updLine_kept d i _).trans (endTending_kept _ i)

/-- R152. -/
theorem takeover_kept (d : Device) (st : StationId) (v : Byte) : Kept d (d.takeover st v) := by
  have h : ∀ (l : List LineId) (p : Slot → Bool),
      Kept d ((l.foldl Device.takeLine (d.startHold st)).endSlotsWhere p .preempted) := fun l p =>
    ((startHold_kept d st).trans (Kept.foldl _ takeLine_kept l _)).trans (endSlotsWhere_work _ _ _).kept
  exact Kept.ite ((h _ _).trans (queueEvent_keeps _ _)) (h _ _)

/-- R153. -/
theorem broadcastStop_kept (d : Device) : Kept d d.broadcastStop := by
  have h : ∀ l : List LineId,
      Kept d ((l.foldl Device.takeLine (all16.foldl Device.startHold d)).endSlotsWhere Slot.live .preempted) := fun l =>
    ((Kept.foldl _ startHold_kept _ d).trans (Kept.foldl _ takeLine_kept l _)).trans (endSlotsWhere_work _ _ _).kept
  exact Kept.ite ((h _).trans (queueEvent_keeps _ _)) (h _)

theorem returnStation_kept (d : Device) (st : StationId) (c : ReturnCause) : Kept d (d.returnStation st c) := by
  have h : Kept d { d with hold := put d.hold st none } := Kept.of_eq rfl rfl
  exact (h.trans (Kept.foldl _ (fun d i => Kept.ite (updLine_kept d i _) (Kept.refl d)) _ _)).trans
    (queueEvent_keeps _ _)

/-- R155. -/
theorem handBack_kept (d : Device) (a : Word16) : Kept d (d.handBack a) := by
  have h : ∀ (d : Device) (st : StationId), Kept d (d.handBackStation st) := fun d st =>
    Kept.ite (returnStation_kept _ _ _) (Kept.refl d)
  unfold Device.handBack
  split
  · exact Kept.foldl _ h _ d
  · split
    · exact h _ _
    · exact Kept.refl d

end Sys2Proof.Machine
end

