-- ==== Sys2Proof/Laws/Requests.lean ====
section
/-! SUPPORT. What the processing of a host's request does, once for all requests: the command's arm, a part that is ready,
a part that is not, and the reply. -/

namespace Sys2Proof.Machine

/-! ### Lists of checks -/

@[simp] theorem firstFailure_nil : firstFailure [] = none := rfl

/-- A list of checks: the first that fails gives the reply. -/
@[simp] theorem firstFailure_cons (b : Bool) (st : ReplyStatus) (l : List (Bool × ReplyStatus)) :
    firstFailure ((b, st) :: l) = if b then firstFailure l else some st := by
  cases b <;> rfl

/-! ### Serving -/

/-- Every command of the host is the serving of its request. -/
theorem exec_of_hostRequest (c : Instr) (tag : Byte) (r : Request) (s : State) (h : hostRequest c = some (tag, r)) :
    exec c s = .next (s.onDevice (Device.serve tag r)) := by
  cases c <;> cases h <;> rfl

/-- A valid frame of the host touches the silence timer and HOST_SILENT; the rest is the work of the trigger entries. -/
theorem hostHeard_work (d : Device) :
    Work { d with quay := { d.quay with silenceTimer := d.quay.link.silenceStart, hostSilent := false } } d.hostHeard :=
  Work.ite (takeConditions_work _) (Work.refl _)

/-- With HOST_SILENT false already a valid frame restarts the silence timer and does nothing else. -/
theorem hostHeard_of_not_silent {d : Device} (h : d.quay.hostSilent = false) :
    d.hostHeard = { d with quay := { d.quay with silenceTimer := d.quay.link.silenceStart } } := by
  simp [Device.hostHeard, h]

/-- A valid frame leaves a ready part ready. -/
theorem hostHeard_ready {d : Device} (h : d.ready) : d.hostHeard.ready := by
  have w := (hostHeard_work d).quay
  exact ⟨w.rxBuffer.trans h.1, lt_of_le_of_lt w.replies h.2.1, w.resetAwaiting.trans h.2.2⟩

/-- A part that is ready runs the request, once the silence monitor has taken its frame. -/
theorem serve_of_ready {d : Device} (tag : Byte) (r : Request) (h : d.ready) :
    Device.serve tag r d = d.hostHeard.run tag r := by
  obtain ⟨hrx, hrep, hres⟩ := hostHeard_ready h
  simp [Device.serve, QuayPort.canProcess, hrx, hrep, hres]

/-- A request with a code, run: its work, one reply, the scheduler's choice. -/
theorem run_of_code {d : Device} (tag : Byte) {r : Request} {c : Byte} (h : r.code = some c) :
    d.run tag r = ((d.perform tag r).dev.pushReply ((d.perform tag r).reply tag r.kind c)).settle := by
  simp [Device.run, h]

/-- A command of the host on a part that is ready, in one equation. -/
theorem exec_of_ready (c : Instr) (tag : Byte) (r : Request) (code : Byte) (s : State)
    (h : hostRequest c = some (tag, r)) (hc : r.code = some code) (hs : s.dev.ready) :
    exec c s = .next (s.heard.answered ((s.heard.dev.perform tag r).reply tag r.kind code)
      (s.heard.dev.perform tag r).dev) := by
  rw [exec_of_hostRequest c tag r s h, State.onDevice, serve_of_ready tag r hs, run_of_code tag hc]
  rfl

/-- The Quay Port processes nothing while it may not. -/
theorem drainList_of_cannot {d : Device} (fs : List HostFrame) (h : d.quay.canProcess = false) :
    Device.drainList fs d = d := by
  cases fs <;> simp [Device.drainList, h]

/-- A part that may not process takes the request's frame in, or loses it. -/
theorem serve_of_cannot {d : Device} (tag : Byte) (r : Request) (h : d.hostHeard.quay.canProcess = false) :
    Device.serve tag r d = (d.hostHeard.takeIn (r.frame tag)).settle := by
  have h' : (d.hostHeard.takeIn (r.frame tag)).quay.canProcess = false := by
    unfold Device.takeIn
    split
    · exact h
    · exact h
  simp [Device.serve, h, Device.drain, drainList_of_cannot _ h']

end Sys2Proof.Machine
end

