-- ==== Sys2Proof/Laws/Lists.lean ====
section
/-! SUPPORT. What every operation keeps of the lists and counts that are bounded (`QueuesWithin`): at most one tend
request for a line, one poll for a line or station, one trigger action for an entry, one frame of a kind for a station
in the STATION source; the poll run and the missed-response counts. One lemma for each operation. -/

namespace Sys2Proof.Machine

/-- One trigger action for an entry, which is PENDING (R91). -/
def Device.actionsWithin (d : Device) : Prop :=
  (d.trig.actions.map ActionRecord.entry).Nodup ∧ ∀ r ∈ d.trig.actions, d.trig.entries[r.entry].status = .pending

/-- A poll run of 4 at most, in an exchange to be given back too (R107, R113). -/
def Device.runsWithin (d : Device) : Prop := d.bus.pollRun ≤ 4 ∧ ∀ x ∈ d.bus.exchange, x.undo.pollRun ≤ 4

/-- An operation keeps each of the bounded lists and counts within its bound. -/
structure ListsKept (d d' : Device) : Prop where
  tend : (d.tend.map TendEntry.line).Nodup → (d'.tend.map TendEntry.line).Nodup
  polls : (d.scan.pollList.map PollEntry.key).Nodup → (d'.scan.pollList.map PollEntry.key).Nodup
  actions : d.actionsWithin → d'.actionsWithin
  source : (d.bus.stationSource.map StationItem.key).Nodup → (d'.bus.stationSource.map StationItem.key).Nodup
  runs : d.runsWithin → d'.runsWithin
  missed : (∀ st : StationId, d.stations[st].missed ≤ 15) → ∀ st : StationId, d'.stations[st].missed ≤ 15

/-- All that the bounds speak of. -/
def Device.bounded (d : Device) :=
  (d.tend, d.scan.pollList, d.trig.actions, d.trig.entries, d.bus.stationSource, d.bus.pollRun, d.bus.exchange,
    d.stations)

/-- Nothing that the bounds speak of has changed. -/
theorem ListsKept.of_eq {d d' : Device} (h : d'.bounded = d.bounded) : ListsKept d d' := by
  simp only [Device.bounded, Prod.mk.injEq] at h
  obtain ⟨h₁, h₂, h₃, h₄, h₅, h₆, h₇, h₈⟩ := h
  exact
    { tend := fun h => by rw [h₁]; exact h
      polls := fun h => by rw [h₂]; exact h
      actions := fun h => by unfold Device.actionsWithin; rw [h₃, h₄]; exact h
      source := fun h => by rw [h₅]; exact h
      runs := fun h => by unfold Device.runsWithin; rw [h₆, h₇]; exact h
      missed := fun h => by rw [h₈]; exact h }

theorem ListsKept.refl (d : Device) : ListsKept d d := ListsKept.of_eq rfl

theorem ListsKept.trans {a b c : Device} (h : ListsKept a b) (k : ListsKept b c) : ListsKept a c where
  tend x := k.tend (h.tend x)
  polls x := k.polls (h.polls x)
  actions x := k.actions (h.actions x)
  source x := k.source (h.source x)
  runs x := k.runs (h.runs x)
  missed x := k.missed (h.missed x)

theorem ListsKept.foldl {α : Type} (f : Device → α → Device) (hf : ∀ d x, ListsKept d (f d x)) (l : List α)
    (d : Device) : ListsKept d (l.foldl f d) := by
  induction l generalizing d with
  | nil => exact ListsKept.refl d
  | cons x xs ih => exact (hf d x).trans (ih _)

theorem ListsKept.ite {c : Prop} [Decidable c] {d a b : Device} (h : ListsKept d a) (k : ListsKept d b) :
    ListsKept d (if c then a else b) := by
  split <;> assumption

/-! ### One list changed -/

/-- Entries taken out of a list keep its keys apart. -/
theorem nodup_filter {α β : Type} (f : α → β) (p : α → Bool) (l : List α) (h : (l.map f).Nodup) :
    ((l.filter p).map f).Nodup := h.sublist (List.Sublist.map f List.filter_sublist)

/-- An entry put at the tail keeps the keys apart when its key is new. -/
theorem nodup_append_one {α β : Type} (f : α → β) (l : List α) (x : α) (h : (l.map f).Nodup)
    (hx : ∀ y ∈ l, f y ≠ f x) : ((l ++ [x]).map f).Nodup := by
  rw [List.map_append, List.nodup_append]
  refine ⟨h, by simp, ?_⟩
  intro a ha b hb e
  obtain ⟨y, hy, rfl⟩ := List.mem_map.mp ha
  simp only [List.map_cons, List.map_nil, List.mem_singleton] at hb
  exact hx y hy (e.trans hb)

/-- Entries changed in other fields keep their keys. -/
theorem map_key_map {α β : Type} (f : α → β) (g : α → α) (hg : ∀ x, f (g x) = f x) (l : List α) :
    (l.map g).map f = l.map f := by
  rw [List.map_map]
  exact List.map_congr_left fun x _ => hg x

theorem tend_lists (d : Device) (l : List TendEntry)
    (h : (d.tend.map TendEntry.line).Nodup → (l.map TendEntry.line).Nodup) : ListsKept d { d with tend := l } :=
  { ListsKept.refl d with tend := h }

theorem pollList_lists (d : Device) (l : List PollEntry)
    (h : (d.scan.pollList.map PollEntry.key).Nodup → (l.map PollEntry.key).Nodup) :
    ListsKept d { d with scan := { d.scan with pollList := l } } :=
  { ListsKept.refl d with polls := h }

theorem source_lists (d : Device) (l : List StationItem)
    (h : (d.bus.stationSource.map StationItem.key).Nodup → (l.map StationItem.key).Nodup) :
    ListsKept d { d with bus := { d.bus with stationSource := l } } :=
  { ListsKept.refl d with source := h }

/-- A station record written with a missed-response count within its bound. -/
theorem setStation_lists (d : Device) (st : StationId) (r : StationRecord)
    (h : d.stations[st].missed ≤ 15 → r.missed ≤ 15) : ListsKept d (d.setStation st r) :=
  { ListsKept.refl d with
    missed := fun k st' => by
      show (put d.stations st r)[st'].missed ≤ 15
      rw [put_get]
      split
      · exact h (k st)
      · exact k st' }

theorem updStation_lists (d : Device) (st : StationId) (f : StationRecord → StationRecord)
    (h : ∀ r : StationRecord, r.missed ≤ 15 → (f r).missed ≤ 15) : ListsKept d (d.updStation st f) :=
  setStation_lists d st _ (h _)

/-- A trigger entry written with its delivery status as it stands. -/
theorem setEntry_lists (d : Device) (e : EntryId) (x : TriggerEntry) (h : x.status = d.trig.entries[e].status) :
    ListsKept d (d.setEntry e x) :=
  { ListsKept.refl d with
    actions := fun k => ⟨k.1, fun r hr => by
      show (put d.trig.entries e x)[r.entry].status = .pending
      rw [put_get]
      split
      · rename_i he; rw [h, ← he]; exact k.2 r hr
      · exact k.2 r hr⟩ }

/-- A trigger entry that is not PENDING written: no record is of it. -/
theorem setEntry_lists_of_not_pending (d : Device) (e : EntryId) (x : TriggerEntry)
    (h : d.trig.entries[e].status ≠ .pending) : ListsKept d (d.setEntry e x) :=
  { ListsKept.refl d with
    actions := fun k => ⟨k.1, fun r hr => by
      show (put d.trig.entries e x)[r.entry].status = .pending
      rw [put_get, if_neg]
      · exact k.2 r hr
      · intro he; exact h (he ▸ k.2 r hr)⟩ }

/-! ### Records, slots and the exchange -/

theorem setLine_lists (d : Device) (i : LineId) (r : LineRecord) : ListsKept d (d.setLine i r) := ListsKept.of_eq rfl

theorem updLine_lists (d : Device) (i : LineId) (f : LineRecord → LineRecord) : ListsKept d (d.updLine i f) :=
  ListsKept.of_eq rfl

theorem queueEvent_lists (d : Device) (e : Event) : ListsKept d (d.queueEvent e) :=
  ListsKept.of_eq rfl

theorem detach_lists (d : Device) (o : FrameOwner) : ListsKept d (d.detach o) := by
  unfold Device.detach
  split
  · rename_i x hx
    refine ListsKept.ite ?_ (ListsKept.refl d)
    exact { ListsKept.refl d with
      runs := fun k => ⟨k.1, fun y hy => by
        have e : y = { x with detached := true } := (Option.mem_some.mp hy).symm
        rw [e]; exact k.2 x hx⟩ }
  · exact ListsKept.refl d

/-- R48: the line's entry is gone. -/
theorem removeTend_lists (d : Device) (i : LineId) : ListsKept d (d.removeTend i) := by
  have h : ListsKept d { d with tend := d.tend.filter fun t => decide (t.line ≠ i) } :=
    tend_lists d _ (nodup_filter _ _ _)
  exact ListsKept.ite (h.trans (detach_lists _ _)) h

theorem setState_lists (d : Device) (i : LineId) (s : LineState) : ListsKept d (d.setState i s) := by
  have h : ListsKept d (d.updLine i fun r => { r with state := s }) := setLine_lists d i _
  exact ListsKept.ite (h.trans (removeTend_lists _ _)) h

theorem setResync_lists (d : Device) (i : LineId) : ListsKept d (d.setResync i) := setLine_lists d i _

theorem resyncUnlessFault_lists (d : Device) (i : LineId) : ListsKept d (d.resyncUnlessFault i) :=
  ListsKept.ite (ListsKept.refl d) (setResync_lists d i)

/-- R10. -/
theorem putFault_lists (d : Device) (i : LineId) (c : FaultCause) : ListsKept d (d.putFault i c) := by
  have h : ListsKept d ((d.setState i .fault).updLine i fun r => { r with cause := some c }) :=
    (setState_lists d i .fault).trans (setLine_lists _ i _)
  exact ListsKept.ite h (h.trans (queueEvent_lists _ _))

theorem restoreState_lists (d : Device) (i : LineId) (p : LineState) : ListsKept d (d.restoreState i p) :=
  ListsKept.ite (setState_lists d i _) (setState_lists d i _)

theorem syncFollowUp_lists (d : Device) (i : LineId) : ListsKept d (d.syncFollowUp i) :=
  ListsKept.of_eq rfl

theorem setSlot_lists (d : Device) (k : SlotId) (x : Slot) : ListsKept d (d.setSlot k x) :=
  ListsKept.of_eq rfl

theorem reformAlm_lists (d : Device) : ListsKept d d.reformAlm :=
  ListsKept.of_eq rfl

theorem retries_lists (d : Device) (l : List SlotId) :
    ListsKept d { d with bridge := { d.bridge with retries := l } } :=
  ListsKept.of_eq rfl

theorem releaseTimers_lists (d : Device) (v : Vector Timer 16) :
    ListsKept d { d with trig := { d.trig with releaseTimers := v } } :=
  ListsKept.of_eq rfl

/-- R13 to R16. -/
theorem applyResult_lists (d : Device) (c : SlotCommand) (b : SlotState) (res : SlotResult) :
    ListsKept d (d.applyResult c b res) := by
  unfold Device.applyResult
  cases res <;> dsimp only
  case done => exact ListsKept.ite (setState_lists _ _ _) (resyncUnlessFault_lists _ _)
  case failed => exact ListsKept.ite (putFault_lists _ _ _) (resyncUnlessFault_lists _ _)
  case actionTimeout => exact ListsKept.ite (putFault_lists _ _ _) (resyncUnlessFault_lists _ _)
  case noResponse => exact ListsKept.ite (putFault_lists _ _ _) (resyncUnlessFault_lists _ _)
  case refused => exact ListsKept.ite (putFault_lists _ _ _) (resyncUnlessFault_lists _ _)
  case preempted =>
    exact ListsKept.ite (ListsKept.ite (restoreState_lists _ _ _) (ListsKept.refl d)) (setResync_lists _ _)
  case aborted =>
    exact ListsKept.ite (ListsKept.ite (restoreState_lists _ _ _) (ListsKept.refl d)) (setResync_lists _ _)

/-- R75. -/
theorem endSlot_lists (d : Device) (k : SlotId) (res : SlotResult) : ListsKept d (d.endSlot k res) := by
  unfold Device.endSlot
  dsimp only
  split
  · exact ListsKept.refl d
  · split
    · exact (((((setSlot_lists d k _).trans (detach_lists _ _)).trans (retries_lists _ _)).trans
        (applyResult_lists _ _ _ _)).trans (setSlot_lists _ k _)).trans (syncFollowUp_lists _ _)
    · exact ListsKept.refl d

theorem endSlotsWhere_lists (d : Device) (p : Slot → Bool) (res : SlotResult) : ListsKept d (d.endSlotsWhere p res) :=
  ListsKept.foldl _ (fun d k => endSlot_lists d k res) _ d

theorem endLiveSlot_lists (d : Device) (i : LineId) (res : SlotResult) : ListsKept d (d.endLiveSlot i res) := by
  unfold Device.endLiveSlot
  split
  · exact endSlot_lists _ _ _
  · exact ListsKept.refl d

/-- R100. -/
theorem clearInFlight_lists (d : Device) (i : LineId) : ListsKept d (d.clearInFlight i) := by
  have h : ListsKept d (d.updLine i fun r => { r with triggerInFlight := none }) := setLine_lists d i _
  exact (h.trans (releaseTimers_lists _ _)).trans (syncFollowUp_lists _ i)

/-- R23. -/
theorem endRelease_lists (d : Device) (i : LineId) (done : Bool) : ListsKept d (d.endRelease i done) := by
  refine ListsKept.ite (ListsKept.trans ?_ (clearInFlight_lists _ i)) (ListsKept.refl d)
  exact ListsKept.ite (ListsKept.ite (setState_lists _ _ _) (putFault_lists _ _ _)) (resyncUnlessFault_lists _ _)

/-- R98: the entry's records are gone before its delivery status changes. -/
theorem deliver_lists (d : Device) (r : ActionRecord) : ListsKept d (d.deliver r) := by
  exact { ListsKept.refl d with
    actions := fun k => by
      refine ⟨nodup_filter _ _ _ k.1, fun x hx => ?_⟩
      obtain ⟨hx, hne⟩ := List.mem_filter.mp hx
      have hne : x.entry ≠ r.entry := of_decide_eq_true hne
      show (put (put d.trig.entries r.entry _) r.entry _)[x.entry].status = .pending
      rw [put_get_ne _ _ hne, put_get_ne _ _ hne]
      exact k.2 x hx }

theorem deliverComplete_lists (d : Device) : ListsKept d d.deliverComplete := ListsKept.foldl _ deliver_lists _ d

theorem updTarget_lists (d : Device) (e : EntryId) (i : LineId) (f : Target → Target) :
    ListsKept d (d.updTarget e i f) :=
  { ListsKept.refl d with
    actions := fun k => by
      have key : ∀ r : ActionRecord, (if r.entry = e then r.updTarget i f else r).entry = r.entry := fun r => by
        split <;> rfl
      refine ⟨?_, fun r hr => ?_⟩
      · show ((d.trig.actions.map _).map ActionRecord.entry).Nodup
        rw [map_key_map ActionRecord.entry _ key]
        exact k.1
      · obtain ⟨r', hr', rfl⟩ := List.mem_map.mp hr
        have of_eq : ∀ a : EntryId, a = r'.entry → d.trig.entries[a].status = .pending := fun a h => h ▸ k.2 r' hr'
        exact of_eq _ (key r') }

/-- R22, R93: the effect on one target. -/
theorem targetEffect_lists (a : TriggerAction) (d : Device) (t : Target) : ListsKept d (d.targetEffect a t) := by
  unfold Device.targetEffect
  cases a <;> dsimp only
  case report => exact ListsKept.refl d
  case slacken => exact ListsKept.refl d
  case hold =>
    exact ListsKept.ite (ListsKept.ite (ListsKept.ite (setState_lists _ _ _) (ListsKept.refl d))
      ((setResync_lists _ _).trans (endLiveSlot_lists _ _ _))) (ListsKept.refl d)
  case release =>
    refine ListsKept.ite ?_ (ListsKept.refl d)
    have h : ListsKept d (if d.lines[t.line].state = .releasing then d else d.setState t.line .releasing) :=
      ListsKept.ite (ListsKept.refl d) (setState_lists _ _ _)
    split
    · split
      · exact ListsKept.ite h (h.trans (endSlot_lists _ _ _))
      · exact h
    · exact h
  case stopAll =>
    exact ListsKept.ite (setState_lists _ _ _) (ListsKept.ite (setResync_lists _ _) (ListsKept.refl d))

theorem firingEffects_lists (d : Device) (a : TriggerAction) (ts : List Target) :
    ListsKept d (d.firingEffects a ts) := by
  have h : ListsKept d (ts.foldl (Device.targetEffect a) d) := ListsKept.foldl _ (targetEffect_lists a) ts d
  exact ListsKept.ite (h.trans (endSlotsWhere_lists _ _ _)) h

/-- A record joins the list with its entry PENDING, which was not. -/
theorem place_lists (d : Device) (e : EntryId) (x : TriggerEntry) (r : ActionRecord) (hr : r.entry = e)
    (hx : x.status = .pending) (h : d.trig.entries[e].status ≠ .pending) :
    ListsKept d { d.setEntry e x with trig := { (d.setEntry e x).trig with actions := d.trig.actions ++ [r] } } :=
  { ListsKept.refl d with
    actions := fun k => by
      have ne : ∀ y ∈ d.trig.actions, y.entry ≠ e := fun y hy he => h (he ▸ k.2 y hy)
      refine ⟨nodup_append_one _ _ _ k.1 fun y hy => hr ▸ ne y hy, fun y hy => ?_⟩
      show (put d.trig.entries e x)[y.entry].status = .pending
      rcases List.mem_append.mp hy with hy | hy
      · rw [put_get_ne _ _ (ne y hy)]
        exact k.2 y hy
      · have of_eq : ∀ a : EntryId, a = e → (put d.trig.entries e x)[a].status = .pending := fun a h => by
          subst h; rw [put_get_self]; exact hx
        exact of_eq _ (by rw [List.mem_singleton.mp hy]; exact hr) }

/-- R91: an entry fires that is not PENDING. -/
theorem fire_lists (d : Device) (e : EntryId) (h : d.trig.entries[e].status ≠ .pending) : ListsKept d (d.fire e) := by
  unfold Device.fire
  dsimp only
  have ev := fun x : Event => queueEvent_lists d x
  refine ListsKept.ite ?_ ?_
  · exact ((ev _).trans (setEntry_lists_of_not_pending _ e _ h)).trans (reformAlm_lists _)
  · have placed :=
    fun (x : Event) (en : TriggerEntry) (r : ActionRecord) (hr : r.entry = e) (hp : en.status = .pending) =>
      (ev x).trans (place_lists (d.queueEvent x) e en r hr hp h)
    refine ListsKept.ite ?_ ?_
    · exact (((placed _ _ _ rfl rfl).trans (firingEffects_lists _ _ _)).trans (reformAlm_lists _)).trans
        (deliver_lists _ _)
    · exact ((placed _ _ _ rfl rfl).trans (firingEffects_lists _ _ _)).trans (reformAlm_lists _)

/-- R88, R89, R91: the entries take the changes of their conditions. -/
theorem takeCondition_lists (d : Device) (e : EntryId) : ListsKept d (d.takeCondition e) := by
  unfold Device.takeCondition
  dsimp only
  refine ListsKept.ite (ListsKept.refl d) ?_
  have h : ListsKept d (d.setEntry e { d.trig.entries[e] with edgeRef := d.conditionOf d.trig.entries[e] }) :=
    setEntry_lists d e _ rfl
  split
  · rename_i c
    refine h.trans (fire_lists _ e ?_)
    simp only [Bool.and_eq_true, decide_eq_true_eq] at c
    show (put d.trig.entries e _)[e].status ≠ .pending
    rw [put_get_self]
    show d.trig.entries[e].status ≠ .pending
    rw [c.2]
    decide
  · exact h

theorem takeConditions_lists (d : Device) : ListsKept d d.takeConditions := ListsKept.foldl _ takeCondition_lists _ d

theorem testLevel_lists (d : Device) (e : EntryId) : ListsKept d (d.testLevel e) := by
  unfold Device.testLevel
  dsimp only
  split
  · rename_i c
    refine fire_lists d e ?_
    simp only [Bool.and_eq_true, decide_eq_true_eq] at c
    rw [c.1.2]
    decide
  · exact ListsKept.refl d

/-- R97. -/
theorem failTarget_lists (d : Device) (p : EntryId × Target) : ListsKept d (d.failTarget p) := by
  refine ListsKept.trans ?_ (clearInFlight_lists _ _)
  have h : ListsKept d (d.updTarget p.1 p.2.line fun t => { t with state := .failed }) := updTarget_lists _ _ _ _
  exact ListsKept.ite (h.trans (detach_lists _ _)) h

theorem failTargets_lists (d : Device) (st : StationId) : ListsKept d (d.failTargets st) :=
  (ListsKept.foldl _ failTarget_lists _ d).trans (deliverComplete_lists _)

theorem nextAction_lists (d : Device) (v : Vector ActionNo 16) :
    ListsKept d { d with bus := { d.bus with nextAction := v } } :=
  ListsKept.of_eq rfl

theorem stationLost_lists (d : Device) (v : Vector Bool 16) :
    ListsKept d { d with trig := { d.trig with stationLost := v } } :=
  ListsKept.of_eq rfl

theorem placeSample_lists (d : Device) (x : Sample) : ListsKept d (d.placeSample x) := ListsKept.of_eq rfl

/-- R65. -/
theorem removePosted_lists (d : Device) (p : PostedEntry → Bool) (r : UndeliveredReason) :
    ListsKept d (d.removePosted p r) := by
  have h : ListsKept d { d with bridge := { d.bridge with posted := d.bridge.posted.filter fun x => !p x } } :=
    ListsKept.of_eq rfl
  exact ListsKept.trans (ListsKept.ite (h.trans (detach_lists _ _)) h) (ListsKept.foldl _ queueEvent_lists _ _)

theorem dropStation_lists (d : Device) (p : StationItem → Bool) : ListsKept d (d.dropStation p) := by
  have h : ListsKept d { d with bus := { d.bus with stationSource := d.bus.stationSource.filter fun x => !p x } } :=
    source_lists d _ (nodup_filter _ _ _)
  unfold Device.dropStation
  dsimp only
  split
  · exact ListsKept.ite (h.trans (detach_lists _ _)) h
  · exact h

/-- A frame placed whose like is not held. -/
theorem placeStation_lists (d : Device) (st : StationId) (f : StationFrame)
    (h : ∀ x ∈ d.bus.stationSource, x.key ≠ StationItem.key { station := st, frame := f }) :
    ListsKept d (d.placeStation st f) :=
  source_lists d _ fun k => nodup_append_one _ _ _ k h

/-- The keys of the STATION source, read: an operation and each drum's abort STOP of a station are apart. -/
theorem key_op (st : StationId) (x : StationItem) (op : StationOp)
    (h : x.key = StationItem.key { station := st, frame := .op op }) : x.station = st ∧ ∃ op', x.frame = .op op' := by
  obtain ⟨s, f, a⟩ := x
  cases f with
  | op o => exact ⟨(Prod.mk.inj h).1, o, rfl⟩
  | stop dr => cases dr <;> exact absurd (Prod.mk.inj h).2 (by decide)

theorem key_stop (st : StationId) (x : StationItem) (dr : Drum)
    (h : x.key = StationItem.key { station := st, frame := .stop dr }) : x.station = st ∧ x.frame = .stop dr := by
  obtain ⟨s, f, a⟩ := x
  cases f with
  | op o => cases dr <;> exact absurd (Prod.mk.inj h).2 (by decide)
  | stop dr' =>
    cases dr' <;> cases dr <;>
      first | exact ⟨(Prod.mk.inj h).1, rfl⟩ | exact absurd (Prod.mk.inj h).2 (by decide)

theorem placeStop_lists (d : Device) (st : StationId) (drum : Drum) : ListsKept d (d.placeStop st drum) := by
  unfold Device.placeStop
  split
  · exact ListsKept.refl d
  · rename_i h
    refine placeStation_lists d st _ fun x hx e => h (List.any_eq_true.mpr ⟨x, hx, decide_eq_true ?_⟩)
    exact key_stop st x drum e

/-- A station with no operation held gets one. -/
theorem placeOp_lists (d : Device) (st : StationId) (op : StationOp) (h : d.stationOperation st = none) :
    ListsKept d (d.placeStation st (.op op)) := by
  refine placeStation_lists d st _ fun x hx e => ?_
  obtain ⟨hs, op', hf⟩ := key_op st x op e
  have := List.findSome?_eq_none_iff.mp h x hx
  simp [hf, hs] at this

/-! ### Scan Unit -/

/-- What an entry of the poll list is for: a line's entry has the line's key. -/
theorem isLine_iff (i : LineId) (x : PollEntry) : x.isLine i = true ↔ x.key = .inl i := by
  cases x <;> simp [PollEntry.isLine, PollEntry.key]

theorem isProbe_iff (st : StationId) (x : PollEntry) : x.isProbe st = true ↔ x.key = .inr st := by
  cases x <;> simp [PollEntry.isProbe, PollEntry.key]

theorem mark_key (i : LineId) (s f : Bool) (x : PollEntry) : (x.mark i s f).key = x.key := by
  cases x with
  | line j a b =>
    show (if j = i then PollEntry.line j (a || s) (b || f) else .line j a b).key = _
    split <;> rfl
  | probe st => rfl

/-- R129: a need makes a line due once. -/
theorem addLine_nodup (l : List PollEntry) (i : LineId) (s f : Bool) (h : (l.map PollEntry.key).Nodup) :
    ((addLine l i s f).map PollEntry.key).Nodup := by
  unfold addLine
  split
  · rw [map_key_map _ _ (mark_key i s f)]
    exact h
  · rename_i hn
    refine nodup_append_one _ _ _ h fun y hy e => hn (List.any_eq_true.mpr ⟨y, hy, (isLine_iff i y).mpr e⟩)

theorem addProbe_nodup (l : List PollEntry) (st : StationId) (h : (l.map PollEntry.key).Nodup) :
    ((addProbe l st).map PollEntry.key).Nodup := by
  unfold addProbe
  split
  · exact h
  · rename_i hn
    refine nodup_append_one _ _ _ h fun y hy e => hn (List.any_eq_true.mpr ⟨y, hy, (isProbe_iff st y).mpr e⟩)

/-- R113: an entry given back takes the place of one for the same line or station. -/
theorem returnEntry_nodup (l : List PollEntry) (p : PollEntry) (h : (l.map PollEntry.key).Nodup) :
    ((returnEntry l p).map PollEntry.key).Nodup := by
  cases p with
  | line i s f =>
    refine List.nodup_cons.mpr ⟨fun hm => ?_, nodup_filter _ _ _ h⟩
    obtain ⟨x, hx, e⟩ := List.mem_map.mp hm
    have := (List.mem_filter.mp hx).2
    rw [(isLine_iff i x).mpr e] at this
    exact absurd this (by decide)
  | probe st =>
    refine List.nodup_cons.mpr ⟨fun hm => ?_, nodup_filter _ _ _ h⟩
    obtain ⟨x, hx, e⟩ := List.mem_map.mp hm
    have := (List.mem_filter.mp hx).2
    rw [(isProbe_iff st x).mpr e] at this
    exact absurd this (by decide)

theorem makeLineDue_lists (d : Device) (s f : Bool) (i : LineId) : ListsKept d (d.makeLineDue s f i) :=
  pollList_lists d _ (addLine_nodup _ i s f)

theorem makeProbeDue_lists (d : Device) (st : StationId) : ListsKept d (d.makeProbeDue st) :=
  pollList_lists d _ (addProbe_nodup _ st)

theorem setProbe_lists (d : Device) (st : StationId) (t : Timer) : ListsKept d (d.setProbe st t) := ListsKept.of_eq rfl

theorem syncProbe_lists (d : Device) (st : StationId) : ListsKept d (d.syncProbe st) :=
  ListsKept.ite (ListsKept.ite (ListsKept.refl d) ((makeProbeDue_lists d st).trans (setProbe_lists _ _ _)))
    (setProbe_lists d _ _)

theorem closeSweep_lists (d : Device) : ListsKept d d.closeSweep := by
  unfold Device.closeSweep
  split
  · exact ListsKept.refl d
  · exact ListsKept.ite (ListsKept.of_eq rfl) (ListsKept.of_eq rfl)

theorem startSweep_lists (d : Device) : ListsKept d d.startSweep := by
  have h : ∀ (p : LineId) (w : Sweep), ListsKept d { d with scan := { d.scan with pointer := p, sweep := some w } } :=
    fun _ _ => ListsKept.of_eq rfl
  exact ListsKept.ite ((h _ _).trans (closeSweep_lists _)) ((h _ _).trans
    (ListsKept.foldl (fun d i => d.makeLineDue true false i) (fun d i => makeLineDue_lists d _ _ i) _ _))

theorem applyConfig_lists (d : Device) (c : ScanConfig) : ListsKept d (d.applyConfig c) := by
  have h : ListsKept d { d with scan := { d.scan with
      config := c, pending := none, intervalTimer := none, sweepDue := false } } := ListsKept.of_eq rfl
  unfold Device.applyConfig
  dsimp only
  split
  · exact h
  · exact h.trans (startSweep_lists _)
  · exact h.trans (startSweep_lists _)
  all_goals exact (h.trans (startSweep_lists _)).trans (ListsKept.of_eq rfl)

theorem finishSweep_lists (d : Device) : ListsKept d d.finishSweep := by
  unfold Device.finishSweep
  dsimp only
  refine ListsKept.ite (ListsKept.ite ?_ (closeSweep_lists d)) ?_
  · split
    · exact (closeSweep_lists d).trans (applyConfig_lists _ _)
    · refine (closeSweep_lists d).trans (ListsKept.trans ?_ (startSweep_lists _))
      exact ListsKept.of_eq rfl
  · split
    · exact (closeSweep_lists d).trans (applyConfig_lists _ _)
    · exact closeSweep_lists d

theorem checkSweep_lists (d : Device) : ListsKept d d.checkSweep := by
  unfold Device.checkSweep
  split
  · exact ListsKept.ite (finishSweep_lists d) (ListsKept.refl d)
  · exact ListsKept.refl d

theorem updSweep_lists (d : Device) (f : Sweep → Sweep) : ListsKept d (d.updSweep f) := ListsKept.of_eq rfl

theorem memberDone_lists (d : Device) (i : LineId) (b : Bool) : ListsKept d (d.memberDone i b) :=
  (updSweep_lists d _).trans (checkSweep_lists _)

theorem pruneHead_lists (n : Nat) (d : Device) : ListsKept d (Device.pruneHead n d) := by
  induction n generalizing d with
  | zero => exact ListsKept.refl d
  | succ n ih =>
    unfold Device.pruneHead
    split
    · exact ListsKept.refl d
    · rename_i i s f rest hl
      have h : ListsKept d { d with scan := { d.scan with pollList := rest } } :=
        pollList_lists d _ fun k => (List.nodup_cons.mp (by rw [hl] at k; exact k)).2
      exact ListsKept.ite (ListsKept.refl d)
        (ListsKept.trans (ListsKept.ite (h.trans (memberDone_lists _ _ _)) h) (ih _))
    · rename_i st rest hl
      exact ListsKept.ite (ListsKept.refl d) (ListsKept.trans
        (pollList_lists d _ fun k => (List.nodup_cons.mp (by rw [hl] at k; exact k)).2) (ih _))

theorem intervalExpires_lists (d : Device) : ListsKept d d.intervalExpires := by
  have h : ∀ t : Timer, ListsKept d { d with scan := { d.scan with intervalTimer := t } } :=
    fun _ => ListsKept.of_eq rfl
  unfold Device.intervalExpires
  dsimp only
  refine ListsKept.ite (ListsKept.refl d) ?_
  split
  · split
    · exact (h _).trans (applyConfig_lists _ _)
    · exact (h _).trans (startSweep_lists _)
  · refine ListsKept.ite (ListsKept.trans ?_ (queueEvent_lists _ _)) (h _)
    exact ListsKept.of_eq rfl

theorem followUpExpires_lists (d : Device) (i : LineId) : ListsKept d (d.followUpExpires i) :=
  ListsKept.ite (ListsKept.refl d) (ListsKept.ite ((makeLineDue_lists d _ _ i).trans (ListsKept.of_eq rfl))
    (ListsKept.of_eq rfl))

theorem probeExpires_lists (d : Device) (st : StationId) : ListsKept d (d.probeExpires st) :=
  ListsKept.ite (ListsKept.refl d) (ListsKept.ite ((makeProbeDue_lists d st).trans (setProbe_lists _ _ _))
    (setProbe_lists _ _ _))

/-! ### Station Monitor -/

theorem raiseChange_lists (d : Device) (st : StationId) (f : ChangeFlags) : ListsKept d (d.raiseChange st f) := by
  have h := updStation_lists d st (fun r => { r with flags := r.flags.union f }) fun _ h => h
  exact ListsKept.ite (h.trans (queueEvent_lists _ _)) h

theorem resyncStation_lists (d : Device) (st : StationId) : ListsKept d (d.resyncStation st) :=
  ListsKept.foldl _ (fun d i => (setResync_lists d i)) _ d

theorem endOperation_lists (d : Device) (st : StationId) (op : StationOp) (o : OpOutcome) :
    ListsKept d (d.endOperation st op o) := (dropStation_lists d _).trans
  (updStation_lists _ st (fun r => { r with outcome := some (op, o) }) fun _ h => h)

theorem gainPresence_lists (d : Device) (st : StationId) : ListsKept d (d.gainPresence st).1 := by
  unfold Device.gainPresence
  dsimp only
  split
  · have h := updStation_lists d st (fun r => { r with presence := .present }) fun _ h => h
    exact (h.trans (resyncStation_lists _ st)).trans (syncProbe_lists _ st)
  · exact ListsKept.refl d

theorem completeReset_lists (d : Device) (st : StationId) (b : Bool) : ListsKept d (d.completeReset st b).1 := by
  unfold Device.completeReset
  split
  · have h : ListsKept d (if (d.stationOperation st).isSome then d.endOperation st .reset .acked else d) :=
      ListsKept.ite (endOperation_lists _ _ _ _) (ListsKept.refl d)
    have k := h.trans (updStation_lists _ st (fun r => { r with resetting := false }) fun _ h => h)
    exact (k.trans (nextAction_lists _ (put _ st 0))).trans (resyncStation_lists _ st)
  · exact ListsKept.refl d

theorem compareParked_lists (d : Device) (st : StationId) (b : Bool) : ListsKept d (d.compareParked st b).1 := by
  unfold Device.compareParked
  split
  · exact ListsKept.refl d
  · exact (updStation_lists d st (fun r => { r with parked := b }) fun _ h => h).trans (syncProbe_lists _ st)

theorem storeDrive_lists (d : Device) (st : StationId) (drum : Drum) (s : DriveStatus) :
    ListsKept d (d.storeDrive st drum s).1 :=
  setStation_lists d st _ fun h => by cases drum <;> exact h

/-- R138. -/
theorem monitorResponse_lists (d : Device) (st : StationId) (a : Answer) : ListsKept d (d.monitorResponse st a) := by
  have h := (updStation_lists d st (fun r => { r with missed := 0 })
      fun _ _ => Nat.zero_le _).trans (gainPresence_lists _ st)
  unfold Device.monitorResponse
  dsimp only
  split
  · exact h.trans (raiseChange_lists _ _ _)
  · exact h.trans (raiseChange_lists _ _ _)
  · exact (((h.trans (completeReset_lists _ _ _)).trans (compareParked_lists _ _ _)).trans
      (storeDrive_lists _ _ _ _)).trans (raiseChange_lists _ _ _)

/-- R140. -/
theorem dropOut_lists (d : Device) (st : StationId) : ListsKept d (d.dropOut st) := by
  have h := fun l : List LineId => (updStation_lists d st (fun r =>
    { r with presence := .absent, enabled := false, missed := 0, resetting := false }) fun _ _ => Nat.zero_le _).trans
      (ListsKept.foldl (fun d i => (d.putFault i .stationLost).clearInFlight i)
        (fun d i => ((putFault_lists d i _).trans (clearInFlight_lists _ i))) l _)
  exact (((((((((h _).trans (endSlotsWhere_lists _ _ _)).trans (removePosted_lists _ _ _)).trans
    (dropStation_lists _ _)).trans (dropStation_lists _ _)).trans (failTargets_lists _ _)).trans
    (syncProbe_lists _ _)).trans (raiseChange_lists _ _ _)).trans (stationLost_lists _ _)).trans
    (takeConditions_lists _)

theorem monitorSilence_lists (d : Device) (st : StationId) : ListsKept d (d.monitorSilence st) := by
  have h := updStation_lists d st (fun r => { r with missed := min 15 (r.missed + 1) }) fun _ _ => Nat.min_le_left _ _
  exact ListsKept.ite (h.trans (dropOut_lists _ _)) h

theorem powerReady_lists (d : Device) (st : StationId) : ListsKept d (d.powerReady st) :=
  (updStation_lists d st (fun r => { r with power := .on, powerGood := none }) fun _ h => h).trans (syncProbe_lists _ st)

theorem switchOn_lists (d : Device) (st : StationId) : ListsKept d (d.switchOn st) :=
  ListsKept.ite (powerReady_lists d st) (updStation_lists d st (fun r =>
    { r with power := .powering, powerGood := some (d.quay.link.powerGood * 250) }) fun _ h => h)

/-- R144. -/
theorem switchOff_lists (d : Device) (st : StationId) : ListsKept d (d.switchOff st) := by
  have off := fun d : Device => updStation_lists d st
    (fun r => { r with power := .off, powerGood := none, presence := .absent }) fun _ h => h
  have reset := fun d : Device => updStation_lists d st (fun r => { r with resetting := false }) fun _ h => h
  have rest := fun d : Device => updStation_lists d st
    (fun r => { r with parked := false, driveA := .ok, driveB := .ok, missed := 0 }) fun _ _ => Nat.zero_le _
  have fault := fun (l : List LineId) (d : Device) => ListsKept.foldl (fun d i => d.putFault i .stationLost)
    (fun d i => putFault_lists d i _) l d
  exact ((((((((((off d).trans (fault _ _)).trans (endSlotsWhere_lists _ _ _)).trans (removePosted_lists _ _ _)).trans
    (dropStation_lists _ _)).trans (dropStation_lists _ _)).trans (reset _)).trans (failTargets_lists _ _)).trans
    (rest _)).trans (syncProbe_lists _ _)).trans (raiseChange_lists _ _ _)

theorem switchPower_lists (d : Device) (st : StationId) (on : Bool) : ListsKept d (d.switchPower st on) := by
  unfold Device.switchPower
  split
  · exact switchOn_lists d st
  all_goals first | exact ListsKept.refl d | exact switchOff_lists d st

theorem operationAcked_lists (d : Device) (st : StationId) (op : StationOp) : ListsKept d (d.operationAcked st op) := by
  have h := endOperation_lists d st op .acked
  unfold Device.operationAcked
  cases op
  · have k := h.trans (updStation_lists _ st (fun r => { r with parked := true }) fun _ h => h)
    exact (k.trans (syncProbe_lists _ _)).trans (raiseChange_lists _ _ _)
  · exact h
  · exact h

theorem operationNotTaken_lists (d : Device) (st : StationId) (op : StationOp) :
    ListsKept d (d.operationNotTaken st op) := by
  have h := endOperation_lists d st op .notTaken
  unfold Device.operationNotTaken
  cases op
  · exact h.trans (raiseChange_lists _ _ _)
  · exact h.trans (raiseChange_lists _ _ _)
  · exact (h.trans (updStation_lists _ st (fun r => { r with resetting := false }) fun _ h => h)).trans
      (raiseChange_lists _ _ _)

/-! ### Tending Unit -/

theorem refuseStep_lists (d : Device) (i : LineId) (dir : TendDirection) (n : Nat) :
    ListsKept d (d.refuseStep i dir n) :=
  ListsKept.ite (ListsKept.refl d) ((queueEvent_lists d _).trans (updLine_lists _ _ _))

theorem dropUnsent_nodup (l : List TendEntry) (i : LineId) (h : (l.map TendEntry.line).Nodup) :
    ((dropUnsent l i).map TendEntry.line).Nodup := nodup_filter _ _ _ h

/-- R53: a passed step joins the list only where the line has no entry. -/
theorem stepPassed_nodup (l : List TendEntry) (i : LineId) (dir : TendDirection) (n : Nat)
    (h : (l.map TendEntry.line).Nodup) : ((stepPassed l i dir n).map TendEntry.line).Nodup := by
  unfold stepPassed
  split
  · rw [map_key_map]
    · exact h
    · intro x
      split
      · split <;> rfl
      · rfl
  · rename_i hn
    exact nodup_append_one _ _ _ h fun y hy e => hn (List.any_eq_true.mpr ⟨y, hy, decide_eq_true e⟩)

theorem tendDecision_lists (d : Device) (i : LineId) : ListsKept d (d.tendDecision i) := by
  unfold Device.tendDecision
  dsimp only
  split
  · exact tend_lists d _ (dropUnsent_nodup _ i)
  · exact ListsKept.ite (tend_lists d _ (stepPassed_nodup _ i _ _))
      ((refuseStep_lists d _ _ _).trans (tend_lists _ _ (dropUnsent_nodup _ i)))

theorem recheckTend_lists (d : Device) (i : LineId) : ListsKept d (d.recheckTend i) := by
  unfold Device.recheckTend
  split
  · exact ListsKept.refl d
  · exact ListsKept.ite (ListsKept.refl d)
      ((tend_lists d _ (dropUnsent_nodup _ i)).trans (refuseStep_lists _ _ _ _))

/-- A line's entry changed but for its line. -/
theorem updTend_lists (d : Device) (i : LineId) (f : TendEntry → TendEntry) (h : ∀ t, (f t).line = t.line) :
    ListsKept d (d.updTend i f) :=
  tend_lists d _ fun k => by
    rw [map_key_map]
    · exact k
    · intro x
      split
      · exact h x
      · rfl

/-! ### Tension Evaluator -/

theorem changeBand_lists (d : Device) (i : LineId) (b : Band) : ListsKept d (d.changeBand i b) :=
  (updLine_lists d i _).trans (queueEvent_lists _ _)

theorem endTending_lists (d : Device) (i : LineId) : ListsKept d (d.endTending i) :=
  ListsKept.ite (setState_lists _ _ _) (ListsKept.refl d)

theorem bandStages_lists (d : Device) (i : LineId) : ListsKept d (d.bandStages i) := by
  have hc : ListsKept d (d.candidateStage i) := by
    unfold Device.candidateStage
    dsimp only
    split
    · exact ListsKept.ite ((changeBand_lists d i _).trans (takeConditions_lists _)) (updLine_lists d i _)
    · exact updLine_lists d i _
  exact ListsKept.ite ((((changeBand_lists d i _).trans (queueEvent_lists _ _)).trans (endTending_lists _ i)).trans
    (takeConditions_lists _)) (ListsKept.ite (updLine_lists d i _) hc)

theorem offerSample_lists (d : Device) (i : LineId) (rep : Report) (b : Bool) : ListsKept d (d.offerSample i rep b) :=
  ListsKept.ite ((updLine_lists d i _).trans (placeSample_lists _ _)) (ListsKept.ite (updLine_lists d i _)
    (ListsKept.ite ((updLine_lists d i _).trans (placeSample_lists _ _)) (updLine_lists d i _)))

theorem handOver_lists (d : Device) (i : LineId) (rep : Report) (b : Bool) : ListsKept d (d.handOver i rep b) := by
  unfold Device.handOver
  dsimp only
  refine ListsKept.trans ?_ (offerSample_lists _ _ _ _)
  have h : ListsKept d (if b then d.updLine i fun r => { r with lengthLimit := false } else d) :=
    ListsKept.ite (updLine_lists d i _) (ListsKept.refl d)
  exact ListsKept.ite (h.trans (tendDecision_lists _ _)) h

theorem evaluate_lists (d : Device) (i : LineId) (rep : Report) : ListsKept d (d.evaluate i rep) :=
  ((updLine_lists d i _).trans (bandStages_lists _ i)).trans (handOver_lists _ _ _ _)

/-- R27 to R31. -/
theorem takeSample_lists (d : Device) (i : LineId) (rep : Report) : ListsKept d (d.takeSample i rep) := by
  have h := updLine_lists d i fun r => { r with lastRaw := some rep.raw }
  unfold Device.takeSample
  dsimp only
  refine ListsKept.ite (ListsKept.ite ?_ ?_) ?_
  · split
    · exact h.trans (updLine_lists _ _ _)
    · exact ((h.trans (updLine_lists _ _ _)).trans (queueEvent_lists _ _)).trans (endTending_lists _ _)
    · exact h
  · split
    · exact h.trans (evaluate_lists _ _ _)
    · exact (h.trans (updLine_lists _ _ _)).trans (evaluate_lists _ _ _)
    · exact ((h.trans (queueEvent_lists _ _)).trans (updLine_lists _ _ _)).trans (evaluate_lists _ _ _)
  · split
    · exact h.trans (evaluate_lists _ _ _)
    · exact h.trans (evaluate_lists _ _ _)
    · exact h

/-! ### Line Table -/

theorem matchSlot_lists (d : Device) (i : LineId) (rep : Report) : ListsKept d (d.matchSlot i rep) := by
  unfold Device.matchSlot
  dsimp only
  split
  · exact ListsKept.refl d
  · refine ListsKept.ite ?_ (ListsKept.refl d)
    split
    · exact (endSlot_lists _ _ _)
    · exact (endSlot_lists _ _ _)
    all_goals exact ListsKept.refl d

theorem matchTrigger_lists (d : Device) (i : LineId) (rep : Report) : ListsKept d (d.matchTrigger i rep) := by
  unfold Device.matchTrigger
  split
  · exact ListsKept.refl d
  · refine ListsKept.ite ?_ (ListsKept.refl d)
    split
    · exact (endRelease_lists _ _ _)
    · exact (endRelease_lists _ _ _)
    all_goals exact ListsKept.refl d

theorem reconcile_lists (d : Device) (i : LineId) (rep : Report) : ListsKept d (d.reconcile i rep) := by
  unfold Device.reconcile
  dsimp only
  refine ListsKept.ite ?_ (ListsKept.refl d)
  split
  · exact (setState_lists _ _ _).trans (updLine_lists _ _ _)
  · exact ListsKept.ite ((updLine_lists d i _).trans (putFault_lists _ _ _)) (ListsKept.refl d)

/-- R11. -/
theorem lineReport_lists (d : Device) (i : LineId) (rep : Report) : ListsKept d (d.lineReport i rep) := by
  have jam : ∀ (d : Device) (l : Latch), ListsKept d (d.jamSlot i l) := fun d l =>
    ListsKept.ite (endLiveSlot_lists d i .failed) (ListsKept.refl d)
  have jamT : ∀ (d : Device) (l : Latch) (b : Bool), ListsKept d (d.jamTrigger i l b) := fun d l b =>
    ListsKept.ite (endRelease_lists d i false) (ListsKept.refl d)
  exact (((((((updLine_lists d i _).trans (recheckTend_lists _ i)).trans (jam _ _)).trans (matchSlot_lists _ _ _)).trans
    (matchTrigger_lists _ _ _)).trans (jamT _ _ _)).trans (reconcile_lists _ _ _)).trans (takeSample_lists _ _ _)

theorem stationReport_lists (d : Device) (st : StationId) (rep : Report) : ListsKept d (d.stationReport st rep) := by
  unfold Device.stationReport
  split
  · exact lineReport_lists _ _ _
  · exact ListsKept.refl d

/-! ### Station Bus Controller -/

theorem updPosted_lists (d : Device) (f : PostedEntry → PostedEntry) : ListsKept d (d.updPosted f) := by
  unfold Device.updPosted
  split
  · exact ListsKept.refl d
  · exact ListsKept.of_eq rfl

/-- The STATION source's head changed in its attempt count. -/
theorem updStationHead_lists (d : Device) (f : StationItem → StationItem) (h : ∀ x, (f x).key = x.key) :
    ListsKept d (d.updStationHead f) := by
  unfold Device.updStationHead
  split
  · exact ListsKept.refl d
  · rename_i x xs hl
    refine source_lists d _ fun k => ?_
    rw [hl] at k
    show (StationItem.key (f x) :: xs.map StationItem.key).Nodup
    rw [h x]
    exact k

theorem popPoll_lists (d : Device) : ListsKept d d.popPoll :=
  pollList_lists d _ fun k => k.sublist (List.Sublist.map _ (List.tail_sublist _))

theorem ownerSent_lists (d : Device) (o : Offer) (a : ActionNo) : ListsKept d (d.ownerSent o a) := by
  unfold Device.ownerSent
  split
  · refine ListsKept.ite ?_ (updTarget_lists _ _ _ _)
    exact (((updTarget_lists d _ _ _).trans (updLine_lists _ _ _)).trans (releaseTimers_lists _ _)).trans
      (syncFollowUp_lists _ _)
  · exact ListsKept.refl d
  · have h := fun (i : LineId) (f : LineRecord → LineRecord) => (popPoll_lists d).trans (updLine_lists _ i f)
    exact ListsKept.ite ((h _ _).trans (updSweep_lists _ _)) (h _ _)
  · exact popPoll_lists d
  · exact updPosted_lists d _
  · exact ListsKept.of_eq rfl
  · exact updTend_lists d _ (fun t => { t with sent := true, attempts := t.attempts + 1 }) fun _ => rfl
  · exact updStationHead_lists d (fun x => { x with attempts := x.attempts + 1 }) fun _ => rfl

theorem takeAction_lists (d : Device) (o : Offer) : ListsKept d (d.takeAction o) := by
  unfold Device.takeAction
  split
  · exact ListsKept.ite (ListsKept.refl d) (ListsKept.of_eq rfl)
  · exact ListsKept.refl d

/-- The poll run stays through a sending: the owner and the action number have nothing to do with it. -/
theorem sent_pollRun (d : Device) (o : Offer) (a : ActionNo) :
    ((d.ownerSent o a).takeAction o).bus.pollRun = d.bus.pollRun := by
  have ht : ∀ d : Device, (d.takeAction o).bus.pollRun = d.bus.pollRun := fun d => by
    unfold Device.takeAction
    split
    · split <;> rfl
    · rfl
  rw [ht]
  unfold Device.ownerSent
  split
  · split <;> rfl
  · rfl
  · dsimp only; split <;> rfl
  · rfl
  · unfold Device.updPosted; split <;> rfl
  · rfl
  · rfl
  · unfold Device.updStationHead; split <;> rfl

/-- R112: the exchange holds the poll run of before the sending. -/
theorem send_lists (d : Device) (o : Offer) : ListsKept d (d.send o) := by
  have h := (ownerSent_lists d o (d.actionFor o)).trans (takeAction_lists _ o)
  exact { h with
    runs := fun k => ⟨(sent_pollRun d o _).symm ▸ k.1, fun x hx => by
      rw [← Option.mem_some.mp hx]; exact k.1⟩ }

theorem sendPoll_lists (d : Device) (o : Offer) : ListsKept d (d.sendPoll o) :=
  { send_lists d o with runs := fun k => ⟨Nat.min_le_left _ _, ((send_lists d o).runs k).2⟩ }

theorem sendThree_lists (d : Device) (p : ClassThree × Offer) : ListsKept d (d.sendThree p) :=
  { send_lists d p.2 with runs := fun k => ⟨Nat.zero_le _, ((send_lists d p.2).runs k).2⟩ }

/-- R106 to R108. -/
theorem choose_lists (d : Device) : ListsKept d d.choose := by
  have h34 : ListsKept d d.choosePollOrThree := by
    unfold Device.choosePollOrThree
    dsimp only
    refine (pruneHead_lists 64 d).trans ?_
    split
    · exact sendPoll_lists _ _
    · split
      · exact sendThree_lists _ _
      · exact ListsKept.refl _
  refine ListsKept.ite ?_ (ListsKept.refl d)
  unfold Device.chooseFree
  split
  · exact send_lists _ _
  · refine ListsKept.ite ?_ h34
    split
    · exact sendThree_lists _ _
    · exact h34

/-- The end of a command's work. -/
theorem settle_lists (d : Device) : ListsKept d d.settle := (choose_lists d).trans (reformAlm_lists _)

theorem engineIdle_lists (d : Device) : ListsKept d d.engineIdle :=
  { ListsKept.refl d with runs := fun k => ⟨k.1, fun _ h => absurd h (by simp [Device.engineIdle])⟩ }

theorem setObserver_lists (d : Device) (o : Observer) : ListsKept d (d.setObserver o) := ListsKept.of_eq rfl

theorem ownerUnsent_lists (d : Device) (x : Exchange) : ListsKept d (d.ownerUnsent x) := by
  unfold Device.ownerUnsent
  split
  · refine ListsKept.ite ?_ (updTarget_lists _ _ _ _)
    exact (((updTarget_lists d _ _ _).trans (updLine_lists _ _ _)).trans (releaseTimers_lists _ _)).trans
      (syncFollowUp_lists _ _)
  · exact ListsKept.refl d
  · have h := fun (p : PollEntry) (i : LineId) (f : LineRecord → LineRecord) =>
      (pollList_lists d (returnEntry d.scan.pollList p) (returnEntry_nodup _ p)).trans (updLine_lists _ i f)
    exact ListsKept.ite ((h _ _ _).trans (updSweep_lists _ _)) (h _ _ _)
  · exact pollList_lists d _ (returnEntry_nodup _ _)
  · exact updPosted_lists d _
  · exact ListsKept.ite (ListsKept.of_eq rfl) (ListsKept.of_eq rfl)
  · exact updTend_lists d _ (fun t => { t with sent := false, attempts := t.attempts - 1 }) fun _ => rfl
  · exact updStationHead_lists d (fun x => { x with attempts := x.attempts - 1 }) fun _ => rfl

/-- R113: of the exchange lost, whose poll run is given back. -/
theorem loseArbitration_lists (d : Device) (x : Exchange) (hx : d.bus.exchange = some x) :
    ListsKept d (d.loseArbitration x) := by
  have h : ListsKept d (if x.detached then d.engineIdle else d.engineIdle.ownerUnsent x) :=
    ListsKept.ite (engineIdle_lists d) ((engineIdle_lists d).trans (ownerUnsent_lists _ x))
  exact { h with runs := fun k => ⟨k.2 x hx, (h.runs k).2⟩ }

theorem triggerEnd_lists (d : Device) (e : EntryId) (i : LineId) (r : CommandEnd) :
    ListsKept d (d.triggerEnd e i r) := by
  have hf : ListsKept d ((if decide (d.trig.entries[e].action = .release) then
      (d.updTarget e i fun t => { t with state := .failed }).endRelease i false
      else d.updTarget e i fun t => { t with state := .failed }).deliverComplete) :=
    ListsKept.trans (ListsKept.ite ((updTarget_lists d e i _).trans (endRelease_lists _ _ _))
      (updTarget_lists d e i _)) (deliverComplete_lists _)
  unfold Device.triggerEnd
  dsimp only
  split
  · exact ListsKept.refl d
  · split
    · refine ListsKept.trans ?_ (deliverComplete_lists _)
      exact ListsKept.ite ((updTarget_lists d e i _).trans (releaseTimers_lists _ _)) (updTarget_lists d e i _)
    · exact ListsKept.ite (updTarget_lists d e i _) hf
    · exact ListsKept.ite (updTarget_lists d e i _) hf

theorem popPosted_lists (d : Device) : ListsKept d d.popPosted := ListsKept.of_eq rfl

theorem postedEnd_lists (d : Device) (r : CommandEnd) : ListsKept d (d.postedEnd r) := by
  unfold Device.postedEnd
  split
  · exact ListsKept.refl d
  · split
    · exact popPosted_lists d
    all_goals exact ListsKept.ite (updPosted_lists d _) ((popPosted_lists d).trans (queueEvent_lists _ _))

theorem confirmedEnd_lists (d : Device) (k : SlotId) (r : CommandEnd) : ListsKept d (d.confirmedEnd k r) := by
  unfold Device.confirmedEnd
  dsimp only
  split
  · exact ListsKept.refl d
  · split
    · exact ((setSlot_lists d k _).trans (syncFollowUp_lists _ _))
    all_goals exact ListsKept.ite (ListsKept.of_eq rfl) (endSlot_lists _ _ _)

theorem tendEnd_lists (d : Device) (i : LineId) (r : CommandEnd) : ListsKept d (d.tendEnd i r) := by
  unfold Device.tendEnd
  dsimp only
  have unsent := fun d : Device => updTend_lists d i (fun t => { t with sent := false }) fun _ => rfl
  have gone : ListsKept d { d with tend := d.tend.filter fun t => decide (t.line ≠ i) } :=
    tend_lists d _ (nodup_filter _ _ _)
  split
  · exact ListsKept.refl d
  · split
    · exact gone
    all_goals
      exact ListsKept.ite ((unsent d).trans (recheckTend_lists _ _)) (gone.trans (queueEvent_lists _ _))

theorem stationEnd_lists (d : Device) (r : CommandEnd) : ListsKept d (d.stationEnd r) := by
  unfold Device.stationEnd
  split
  · exact ListsKept.refl d
  · rename_i x xs hl
    have gone : ListsKept d { d with bus := { d.bus with stationSource := xs } } :=
      source_lists d _ fun k => (List.nodup_cons.mp (by rw [hl] at k; exact k)).2
    split
    · split
      · exact gone
      · exact operationAcked_lists _ _ _
    all_goals
      refine ListsKept.ite (ListsKept.refl d) ?_
      split
      · exact gone
      · exact operationNotTaken_lists _ _ _

theorem commandEnd_lists (d : Device) (o : FrameOwner) (r : CommandEnd) : ListsKept d (d.commandEnd o r) := by
  unfold Device.commandEnd
  split
  · exact triggerEnd_lists _ _ _ _
  · exact postedEnd_lists _ _
  · exact confirmedEnd_lists _ _ _
  · exact tendEnd_lists _ _ _
  · exact stationEnd_lists _ _
  all_goals exact ListsKept.refl d

theorem pollEnd_lists (d : Device) (o : FrameOwner) (b : Bool) : ListsKept d (d.pollEnd o b) := by
  unfold Device.pollEnd
  split
  · exact memberDone_lists _ _ _
  · exact ListsKept.refl d

theorem ownerSilence_lists (d : Device) (x : Exchange) (b : Bool) : ListsKept d (d.ownerSilence x b) :=
  ListsKept.ite (ListsKept.refl d) (ListsKept.ite (pollEnd_lists _ _ _)
    ((commandEnd_lists _ _ _).trans (pollEnd_lists _ _ _)))

theorem ownerTakes_lists (d : Device) (x : Exchange) (st : StationId) (a : Answer) :
    ListsKept d (d.ownerTakes x st a) := by
  unfold Device.ownerTakes
  refine ListsKept.ite (ListsKept.refl d) ?_
  split
  · exact (commandEnd_lists _ _ _).trans (pollEnd_lists _ _ _)
  · exact (commandEnd_lists _ _ _).trans (pollEnd_lists _ _ _)
  · exact (stationReport_lists _ _ _).trans (pollEnd_lists _ _ _)

/-- R115. -/
theorem endExchange_lists (d : Device) (x : Exchange) (st : StationId) (a : Option Answer) (o : SilenceOrder) :
    ListsKept d (d.endExchange x st a o) := by
  unfold Device.endExchange
  dsimp only
  split
  · exact ((engineIdle_lists d).trans (monitorResponse_lists _ _ _)).trans (ownerTakes_lists _ _ _ _)
  · refine (engineIdle_lists d).trans ?_
    unfold Device.endSilent
    dsimp only
    split
    · exact (ownerSilence_lists _ _ _).trans (monitorSilence_lists _ _)
    · exact (monitorSilence_lists _ _).trans (ownerSilence_lists _ _ _)

theorem endBroadcast_lists (d : Device) (x : Exchange) : ListsKept d (d.endBroadcast x) := by
  unfold Device.endBroadcast
  dsimp only
  split
  · split
    · exact (engineIdle_lists d).trans (deliver_lists _ _)
    · exact engineIdle_lists d
  · exact engineIdle_lists d

/-! ### Local Control -/

theorem startHold_lists (d : Device) (st : StationId) : ListsKept d (d.startHold st) := ListsKept.of_eq rfl

theorem takeLine_lists (d : Device) (i : LineId) : ListsKept d (d.takeLine i) :=
  (updLine_lists d i _).trans (endTending_lists _ i)

/-- R152. -/
theorem takeover_lists (d : Device) (st : StationId) (v : Byte) : ListsKept d (d.takeover st v) := by
  have h : ∀ (l : List LineId) (p : Slot → Bool),
      ListsKept d ((l.foldl Device.takeLine (d.startHold st)).endSlotsWhere p .preempted) := fun l p =>
    ((startHold_lists d st).trans (ListsKept.foldl _ takeLine_lists l _)).trans (endSlotsWhere_lists _ _ _)
  exact ListsKept.ite ((h _ _).trans (queueEvent_lists _ _)) (h _ _)

/-- R153. -/
theorem broadcastStop_lists (d : Device) : ListsKept d d.broadcastStop := by
  have h : ∀ l : List LineId,
      ListsKept d ((l.foldl Device.takeLine (all16.foldl Device.startHold d)).endSlotsWhere Slot.live .preempted) :=
        fun l =>
    ((ListsKept.foldl _ startHold_lists _ d).trans (ListsKept.foldl _ takeLine_lists l _)).trans (endSlotsWhere_lists _ _ _)
  exact ListsKept.ite ((h _).trans (queueEvent_lists _ _)) (h _)

theorem returnStation_lists (d : Device) (st : StationId) (c : ReturnCause) : ListsKept d (d.returnStation st c) := by
  have h : ListsKept d { d with hold := put d.hold st none } := ListsKept.of_eq rfl
  exact (h.trans (ListsKept.foldl _ (fun d i => ListsKept.ite (updLine_lists d i _) (ListsKept.refl d)) _ _)).trans
    (queueEvent_lists _ _)

/-- R155. -/
theorem handBack_lists (d : Device) (a : Word16) : ListsKept d (d.handBack a) := by
  have h : ∀ (d : Device) (st : StationId), ListsKept d (d.handBackStation st) := fun d st =>
    ListsKept.ite (returnStation_lists _ _ _) (ListsKept.refl d)
  unfold Device.handBack
  split
  · exact ListsKept.foldl _ h _ d
  · split
    · exact h _ _
    · exact ListsKept.refl d

/-! ### Requests -/

theorem clearFresh_lists (d : Device) (i : LineId) : ListsKept d (d.clearFresh i) := ListsKept.of_eq rfl

theorem applied_lists {d d' : Device} (b : Bool) (data : List Byte) (h : ListsKept d d') :
    ListsKept d (applied d' b data).dev := by
  unfold applied
  split <;> exact h

theorem setResetting_lists (d : Device) (st : StationId) (b : Bool) :
    ListsKept d (d.updStation st fun r => { r with resetting := b }) := updStation_lists d st _ fun _ h => h

theorem calibrateSensor_lists (d : Device) (i : LineId) (a b : CableCheck) : ListsKept d (d.calibrateSensor i a b) := by
  unfold Device.calibrateSensor
  dsimp only
  refine ListsKept.ite ?_ (ListsKept.refl d)
  exact ListsKept.ite (ListsKept.of_eq rfl) (updLine_lists d i _)

/-- A trigger entry that is not PENDING written, then tried as a LEVEL entry (R84, R99). -/
theorem loadEntry_lists (d : Device) (e : EntryId) (x : TriggerEntry) (h : d.trig.entries[e].status ≠ .pending) :
    ListsKept d ((d.setEntry e x).reformAlm.testLevel e) :=
  ((setEntry_lists_of_not_pending d e x h).trans (reformAlm_lists _)).trans (testLevel_lists _ e)

theorem accept_lists {d d' : Device} (h : ListsKept d d') : ListsKept d (accept d').dev := h

/-- R68: a slot filled. -/
theorem fillSlot_lists (d : Device) (k : SlotId) (i : LineId) (v : ConfirmedVerb) (tag : Byte) (a : Word16) :
    ListsKept d (d.fillSlot k i v tag a) := by
  have h : ∀ (x : Slot) (n : Nat), ListsKept d { d.setSlot k x with bridge := { (d.setSlot k x).bridge with
      nextOrder := n } } := fun _ _ => ListsKept.of_eq rfl
  exact (h _ _).trans (setState_lists _ i _)

/-- R67, R68. -/
theorem confirm_lists (d : Device) (i : LineId) (v : ConfirmedVerb) (tag : Byte) (a : Word16) :
    ListsKept d (d.confirm i v tag a).dev := by
  unfold Device.confirm
  split
  · rename_i k _
    unfold Device.collect
    dsimp only
    split
    · exact ListsKept.refl d
    · exact setSlot_lists d k _
  · split
    · exact ListsKept.refl d
    · exact ListsKept.refl d
    · dsimp only
      split
      · exact fillSlot_lists d _ i v tag a
      · exact fillSlot_lists d _ i v tag a

/-- R61, R62. -/
theorem post_lists (d : Device) (i : LineId) (v : PostedVerb) (a : Word16) : ListsKept d (d.post i v a).dev := by
  have h : ∀ (b : Binding) (n : Nat), ListsKept d (d.enterPosted i b v n) := fun _ _ => ListsKept.of_eq rfl
  have k : ∀ (b : Binding) (n : Nat),
      ListsKept d (if v = .hold then (d.enterPosted i b v n).endTending i else d.enterPosted i b v n) := fun b n =>
    ListsKept.ite ((h b n).trans (endTending_lists _ i)) (h b n)
  unfold Device.post
  split
  · exact ListsKept.refl d
  · exact ListsKept.refl d
  · dsimp only
    split
    · exact k _ _
    · exact accept_lists (k _ _)

/-- R46. -/
theorem tendOn_lists (d : Device) (i : LineId) : ListsKept d (d.tendOn i).dev := by
  unfold Device.tendOn
  split
  · exact ListsKept.refl d
  · exact accept_lists ((setState_lists d i .tending).trans (updLine_lists _ i _))

/-- R47. -/
theorem tendOff_lists (d : Device) (i : LineId) : ListsKept d (d.tendOff i).dev := by
  unfold Device.tendOff
  split
  · exact ListsKept.refl d
  · exact accept_lists (setState_lists d i .locked)

/-- R60. -/
theorem lineCommand_lists (d : Device) (v : LineVerb) (l tag : Byte) (a : Word16) :
    ListsKept d (d.lineCommand v l tag a).dev := by
  unfold Device.lineCommand
  split
  · exact ListsKept.refl d
  · rename_i i _
    cases v
    · exact confirm_lists d i .runOut tag a
    · exact confirm_lists d i .lock tag a
    · exact confirm_lists d i .release tag a
    · exact confirm_lists d i .rewind tag a
    · exact tendOn_lists d i
    · exact tendOff_lists d i
    · exact post_lists d i .hold a
    · exact post_lists d i .heave a
    · exact post_lists d i .payout a

/-- R3. -/
theorem loadEnvelope_lists (d : Device) (line : Byte) (s l h a cr hy p n : Word16) :
    ListsKept d (d.loadEnvelope line s l h a cr hy p n).dev := by
  unfold Device.loadEnvelope
  split
  · exact ListsKept.refl d
  · split
    · exact applied_lists _ _ (updLine_lists d _ _)
    · exact ListsKept.refl d

/-- R4. -/
theorem loadCalibration_lists (d : Device) (line : Byte) (z s k : Word16) (c : Byte) :
    ListsKept d (d.loadCalibration line z s k c).dev := by
  unfold Device.loadCalibration
  split
  · exact ListsKept.refl d
  · exact ListsKept.refl d
  · exact applied_lists _ _ ((updLine_lists d _ _).trans (calibrateSensor_lists _ _ _ _))

/-- R5. -/
theorem loadLimits_lists (d : Device) (line : Byte) (st mn mx ts ro rw lk rl dv : Word16) :
    ListsKept d (d.loadLimits line st mn mx ts ro rw lk rl dv).dev := by
  unfold Device.loadLimits
  split
  · exact ListsKept.refl d
  · split
    · exact applied_lists _ _ ((updLine_lists d _ _).trans (recheckTend_lists _ _))
    · exact ListsKept.refl d

/-- R6. -/
theorem assignLine_lists (d : Device) (line s dr g : Byte) : ListsKept d (d.assignLine line s dr g).dev := by
  unfold Device.assignLine
  split
  · exact ListsKept.refl d
  · split
    · exact ListsKept.refl d
    · split
      · split
        · exact ListsKept.refl d
        · exact accept_lists ((updLine_lists d _ _).trans (takeConditions_lists _))
      · exact ListsKept.refl d

/-- R7. -/
theorem unassignLine_lists (d : Device) (line : Byte) : ListsKept d (d.unassignLine line).dev := by
  unfold Device.unassignLine
  split
  · exact ListsKept.refl d
  · split
    · exact ListsKept.refl d
    · split
      · exact ListsKept.refl d
      · exact accept_lists ((((updLine_lists d _ _).trans (removePosted_lists _ _ _)).trans
          (clearFresh_lists _ _)).trans (takeConditions_lists _))

/-- R20. -/
theorem clearFault_lists (d : Device) (line : Byte) : ListsKept d (d.clearFault line).dev := by
  unfold Device.clearFault
  split
  · exact ListsKept.refl d
  · split
    · exact accept_lists (setResync_lists d _)
    · exact ListsKept.refl d

/-- R77, R78. -/
theorem abortLine_lists (d : Device) (line : Byte) : ListsKept d (d.abortLine line).dev := by
  unfold Device.abortLine
  split
  · exact ListsKept.refl d
  · split
    · exact ListsKept.refl d
    · rename_i k _
      have h := endSlot_lists d k .aborted
      dsimp only
      split
      · exact accept_lists (ListsKept.ite (h.trans (placeStop_lists _ _ _)) h)
      · exact accept_lists h

/-- R84. -/
theorem loadTrigger_lists (d : Device) (e s p en m po a tm : Byte) (t : Word16) :
    ListsKept d (d.loadTrigger e s p en m po a tm t).dev := by
  unfold Device.loadTrigger
  split
  · exact ListsKept.refl d
  · exact ListsKept.refl d
  · split
    · exact ListsKept.refl d
    · rename_i h
      exact accept_lists (loadEntry_lists d _ _ h)

/-- R99. -/
theorem triggerAck_lists (d : Device) (entry : Byte) : ListsKept d (d.triggerAck entry).dev := by
  unfold Device.triggerAck
  split
  · exact ListsKept.refl d
  · dsimp only
    split
    · rename_i h
      exact accept_lists (loadEntry_lists d _ _ (by rw [h]; decide))
    · exact ListsKept.refl d

/-- R90. -/
theorem fireTrigger_lists (d : Device) (entry : Byte) : ListsKept d (d.fireTrigger entry).dev := by
  unfold Device.fireTrigger
  split
  · exact ListsKept.refl d
  · dsimp only
    split
    · exact ListsKept.refl d
    · split
      · exact ListsKept.refl d
      · rename_i h
        exact accept_lists (fire_lists d _ fun e => h (Or.inr e))

/-- R136. -/
theorem stationConfig_lists (d : Device) (s m : Byte) (l : Word16) : ListsKept d (d.stationConfig s m l).dev := by
  unfold Device.stationConfig
  split
  · exact ListsKept.refl d
  · exact ListsKept.refl d
  · rename_i st m' _ _
    exact applied_lists _ _ (updStation_lists d st (fun r => { r with mask := m', missedLimit := clamp 1 15 l.toNat })
      fun _ h => h)

/-- R142. -/
theorem stationPower_lists (d : Device) (s o : Byte) : ListsKept d (d.stationPower s o).dev := by
  unfold Device.stationPower
  split
  · exact ListsKept.refl d
  · exact ListsKept.refl d
  · split
    · exact ListsKept.refl d
    · split
      · exact ListsKept.refl d
      · exact accept_lists (switchPower_lists d _ _)

theorem globalPower_lists (d : Device) (o : Byte) : ListsKept d (d.globalPower o).dev := by
  unfold Device.globalPower
  split
  · exact ListsKept.refl d
  · split
    · exact ListsKept.refl d
    · exact accept_lists (ListsKept.foldl _ (fun d st => switchPower_lists d st _) _ d)

/-- R141. -/
theorem enableStation_lists (d : Device) (s : Byte) : ListsKept d (d.enableStation s).dev := by
  unfold Device.enableStation
  split
  · exact ListsKept.refl d
  · split
    · exact accept_lists (ListsKept.refl d)
    · have h :=
      fun st => updStation_lists d st (fun r => { r with enabled := true, missed := 0 }) fun _ _ => Nat.zero_le _
      exact accept_lists (((((h _).trans (raiseChange_lists _ _ _)).trans
        (stationLost_lists _ _)).trans (takeConditions_lists _)).trans (syncProbe_lists _ _))

/-- A check that passes leaves the checks after it. -/
theorem firstFailure_none {b : Bool} {st : ReplyStatus} {l : List (Bool × ReplyStatus)}
    (h : firstFailure ((b, st) :: l) = none) : b = true ∧ firstFailure l = none := by
  cases b
  · cases h
  · exact ⟨rfl, h⟩

/-- R146. -/
theorem parkOperation_lists (d : Device) (s : Byte) (b : Bool) : ListsKept d (d.parkOperation s b).dev := by
  unfold Device.parkOperation
  split
  · exact ListsKept.refl d
  · dsimp only
    split
    · exact ListsKept.refl d
    · rename_i h
      have hs := (firstFailure_none (firstFailure_none h).2).1
      have free := Option.isNone_iff_eq_none.mp (Bool.and_eq_true _ _ ▸ hs).1
      split
      · exact accept_lists (ListsKept.refl d)
      · exact accept_lists (placeOp_lists d _ _ free)

/-- R148. -/
theorem stationReset_lists (d : Device) (s : Byte) : ListsKept d (d.stationReset s).dev := by
  unfold Device.stationReset
  split
  · exact ListsKept.refl d
  · dsimp only
    split
    · exact ListsKept.refl d
    · rename_i h
      have hs := (firstFailure_none (firstFailure_none h).2).1
      have hs := (Bool.and_eq_true _ _ ▸ hs).1
      have free := Option.isNone_iff_eq_none.mp (Bool.and_eq_true _ _ ▸ hs).1
      exact accept_lists ((setResetting_lists d _ true).trans (placeOp_lists _ _ _ free))

/-- R137. -/
theorem ackStationChanges_lists (d : Device) (s f : Byte) : ListsKept d (d.ackStationChanges s f).dev := by
  unfold Device.ackStationChanges
  split
  · exact ListsKept.refl d
  · have h := fun st => updStation_lists d st (fun r => { r with flags := r.flags.without (ChangeFlags.ofByte f) })
      fun _ h => h
    exact accept_lists (h _)

/-- R123. -/
theorem setScan_lists (d : Device) (m t : Byte) (ss ps : LineSet) (iv : Word16) :
    ListsKept d (d.setScan m t ss ps iv).dev := by
  have pend : ∀ c : ScanConfig, ListsKept d { d with scan := { d.scan with pending := some c } } := fun _ =>
    ListsKept.of_eq rfl
  unfold Device.setScan
  split
  · exact ListsKept.refl d
  · exact ListsKept.refl d
  · split
    · exact ListsKept.refl d
    · exact applied_lists _ _ (ListsKept.ite (applyConfig_lists d _) (pend _))

/-- R167. -/
theorem setLink_lists (d : Device) (a b c e f g : Word16) : ListsKept d (d.setLink a b c e f g).dev := by
  have h : ∀ (l : LinkSettings) (t : Timer),
      ListsKept d { d with quay := { d.quay with link := l, silenceTimer := t } } := fun _ _ => ListsKept.of_eq rfl
  exact applied_lists _ _ (h _ _)

/-- R1, R83, R168. -/
theorem readLine_lists (d : Device) (l : Byte) : ListsKept d (d.readLine l).dev := by
  unfold Device.readLine
  split <;> exact ListsKept.refl d

theorem readTrigger_lists (d : Device) (e : Byte) : ListsKept d (d.readTrigger e).dev := by
  unfold Device.readTrigger
  split <;> exact ListsKept.refl d

theorem readStatus_lists (d : Device) (p : Byte) : ListsKept d (d.readStatus p).dev := by
  unfold Device.readStatus
  split
  · exact ListsKept.refl d
  · split
    · exact ListsKept.refl d
    · split <;> exact ListsKept.refl d

/-- The work of every request. -/
theorem perform_lists (d : Device) (tag : Byte) (r : Request) : ListsKept d (d.perform tag r).dev := by
  cases r
  case line v l a => exact lineCommand_lists d v l tag a
  case badLine => exact ListsKept.refl d
  case emptyManagement => exact ListsKept.refl d
  case unknown => exact ListsKept.refl d
  case wrongLength => exact ListsKept.refl d
  case assignLine l s dr g => exact assignLine_lists d l s dr g
  case unassignLine l => exact unassignLine_lists d l
  case loadEnvelope l s lo hi a c h p n => exact loadEnvelope_lists d l s lo hi a c h p n
  case loadCalibration l z s k c => exact loadCalibration_lists d l z s k c
  case loadLimits l st mn mx ts ro rw lk rl dv => exact loadLimits_lists d l st mn mx ts ro rw lk rl dv
  case readLine l => exact readLine_lists d l
  case clearFault l => exact clearFault_lists d l
  case abortLine l => exact abortLine_lists d l
  case loadTrigger e s p en m po a tm t => exact loadTrigger_lists d e s p en m po a tm t
  case readTrigger e => exact readTrigger_lists d e
  case triggerAck e => exact triggerAck_lists d e
  case fireTrigger e => exact fireTrigger_lists d e
  case setScan m t ss ps iv => exact setScan_lists d m t ss ps iv
  case readScan => exact ListsKept.refl d
  case stationConfig s m l => exact stationConfig_lists d s m l
  case stationPower s o => exact stationPower_lists d s o
  case globalPower o => exact globalPower_lists d o
  case enableStation s => exact enableStation_lists d s
  case park s => exact parkOperation_lists d s true
  case unpark s => exact parkOperation_lists d s false
  case stationReset s => exact stationReset_lists d s
  case ackStationChanges s f => exact ackStationChanges_lists d s f
  case setLink a b c e f g => exact setLink_lists d a b c e f g
  case readStatus p => exact readStatus_lists d p
  case softReset =>
    have h : ListsKept d { d with quay := { d.quay with resetAwaiting := true } } := ListsKept.of_eq rfl
    exact accept_lists h

/-- The processing of a request, its reply and the scheduler's choice. -/
theorem run_lists (d : Device) (tag : Byte) (r : Request) : ListsKept d (d.run tag r) := by
  have push : ∀ (d : Device) (x : Reply), ListsKept d (d.pushReply x) := fun _ _ => ListsKept.of_eq rfl
  have h := perform_lists d tag r
  unfold Device.run
  dsimp only
  split
  · exact (h.trans (push _ _)).trans (settle_lists _)
  · have count : ∀ (d : Device) (n : Nat), ListsKept d { d with freeCount := n } := fun _ _ => ListsKept.of_eq rfl
    exact ((h.trans (push _ _)).trans (count _ _)).trans (settle_lists _)

/-- R174. -/
theorem hostHeard_lists (d : Device) : ListsKept d d.hostHeard := by
  have h : ListsKept d { d with quay := { d.quay with silenceTimer := d.quay.link.silenceStart, hostSilent := false } } :=
    ListsKept.of_eq rfl
  exact ListsKept.ite (h.trans (takeConditions_lists _)) h

theorem hostSilence_lists (d : Device) : ListsKept d d.hostSilence := by
  have h : ListsKept d { d with quay := { d.quay with silenceTimer := none, hostSilent := true } } :=
    ListsKept.of_eq rfl
  exact ListsKept.ite (ListsKept.refl d) ((h.trans (queueEvent_lists _ _)).trans (takeConditions_lists _))

theorem takeIn_lists (d : Device) (f : HostFrame) : ListsKept d (d.takeIn f) :=
  ListsKept.ite (ListsKept.refl d) (ListsKept.of_eq rfl)

theorem drainList_lists (fs : List HostFrame) (d : Device) : ListsKept d (Device.drainList fs d) := by
  induction fs generalizing d with
  | nil => exact ListsKept.refl d
  | cons f fs ih =>
    have h : ListsKept d { d with quay := { d.quay with rxBuffer := fs } } := ListsKept.of_eq rfl
    exact ListsKept.ite ((h.trans (run_lists _ _ _)).trans (ih _)) (ListsKept.refl d)

/-- Every command of the host. -/
theorem serve_lists (d : Device) (tag : Byte) (r : Request) : ListsKept d (Device.serve tag r d) :=
  (hostHeard_lists d).trans (ListsKept.ite (run_lists _ tag r)
    (((takeIn_lists _ _).trans (drainList_lists _ _)).trans (settle_lists _)))

end Sys2Proof.Machine
end

