-- ==== Sys2Proof/Tests/Slice0.lean ====
section
/-! SUPPORT. The model's own tests: ill-formed commands that the check refuses, one small step per family, the frames
of the two links against values worked by hand, and for every statement with hypotheses a case that meets them all. -/

open Sys2Proof Sys2Proof.Machine

namespace Sys2Proof.Tests

/-! ### Helpers: a small ship -/

/-- The part with the host's link up and nothing on the Station Bus. -/
def quiet : Device :=
  { State.reset.dev with
    quay := { State.reset.dev.quay with receiver := .idle }
    bus := { State.reset.dev.bus with observer := .quiet } }

/-- Line 1 on drum A of station 1, group 3, in a state. -/
def lineIn (st : LineState) : LineRecord :=
  { binding := some { station := 0, drum := .a, group := 3 }, state := st, length := some 2000 }

/-- Station 1 present, enabled and powered. -/
def present : StationRecord := { power := .on, presence := .present }

/-- The part with line 1 in a state and station 1 present. -/
def shipIn (st : LineState) : Device := (quiet.setLine 0 (lineIn st)).setStation 0 present

/-- The machine with the part as `d` and no command waiting. -/
def machine (d : Device) : State := { dev := d, pending := [] }

/-- The same part while a reply is being sent. -/
def sending (d : Device) (r : Reply) : Device := { d with quay := { d.quay with transmitter := some (.reply r) } }

/-- A reply of no consequence. -/
def aReply : Reply := { tag := 1, status := .ok, kind := .management, code := 0x30, data := [] }

/-- What a next state has of the part; none for the other outcomes. -/
def after {α : Type} (o : Host.Outcome State Fault Refusal) (f : Device → α) : Option α :=
  match o with
  | .next t => some (f t.dev)
  | .fault _ => none
  | .refused _ => none

/-- The status and data of the reply being sent. -/
def replied (d : Device) : Option (ReplyStatus × List Byte) :=
  match d.quay.transmitter with
  | some (.reply r) => some (r.status, r.data)
  | _ => none

/-- A command of a verb for line 1 in a slot, taken from state LOCKED. -/
def slotCommand (v : ConfirmedVerb) : SlotCommand :=
  { line := 0, verb := v, tag := 9, requested := 0, sentArg := 0, prior := .locked, order := 0 }

/-- A live slot of line 1. -/
def slotIn (st : SlotState) (v : ConfirmedVerb) : Slot :=
  { state := st, command := some (slotCommand v), attempts := 1, action := some 4 }

/-- A frame of the part to station 1. -/
def frameTo (v : BusVerb) : BusFrame := { priority := 3, dest := 1, verb := v }

/-- An exchange with station 1. -/
def exchange (o : FrameOwner) (v : BusVerb) : Exchange :=
  { owner := o, frame := frameTo v, station := some 0
    undo := { rotation := [.posted, .confirmed, .tend, .station], pollRun := 0 } }

/-- The part while a frame is being sent. -/
def onBus (d : Device) (x : Exchange) : Device := { d with bus := { d.bus with engine := .sending, exchange := some x } }

/-- The part while a response is awaited. -/
def awaiting (d : Device) (x : Exchange) (got : Option (List Byte)) : Device :=
  { d with bus := { d.bus with
      engine := .awaitingResponse, exchange := some x, window := some 4, response := got } }

/-- Seven characters of a pendant frame to a destination with a verb. -/
def pendantChars (dest verb : Byte) : List Byte :=
  let body := [arbitrationChar 0 29, dest, verb, 0, 0, 1]
  body ++ [crc8 body]

/-- The part with the observer in a state. -/
def watching (o : Observer) : Device := quiet.setObserver o

/-- A STATUS of station 1, drum A, latch CLOSED, action 4 DONE, length 2000, raw sample 1700. -/
def statusChars : List Byte :=
  let body : List Byte := [0x61, 0x08, 0x24, 0, 0x07, 0xD0, 0x06, 0xA4]
  body ++ [crc8 body]

/-- The report of those characters. -/
def aReport (l : Latch) (len : Nat) : Report :=
  { drum := .a, kind := .normal, latch := l, brake := .set, drive := .ok, action := 4, status := .done,
    motion := .stopped, resetDone := false, parked := false, length := len, raw := 1700 }

/-- The part with a silence time of 60 s after its expiry, or with the timer running. -/
def withSilence (silent : Bool) : Device :=
  { quiet with quay := { quiet.quay with
      link := { quiet.quay.link with silence := 60 }, hostSilent := silent
      silenceTimer := if silent then none else some 60000 } }

/-! ### WellFormed: ill-formed terms are refused -/

theorem test_wf_refuses_an_empty_host_frame : (Instr.hostFrameReceived []).wellFormed = false := by decide

theorem test_wf_refuses_a_payload_length_of_240 : (Instr.payloadLengthAbove240 0x10 1 240).wellFormed = false := by
  decide

theorem test_wf_refuses_a_known_code : (Instr.unknownOperation 1 0x3F []).wellFormed = false := by decide

theorem test_wf_refuses_too_many_fields :
    (Instr.unknownOperation 1 0x7F (List.replicate 240 0)).wellFormed = false := by decide +kernel

theorem test_wf_refuses_a_defined_verb : (Instr.undefinedVerb 1 [1, 0x09, 0, 0]).wellFormed = false := by decide

theorem test_wf_refuses_too_long_a_line_command :
    (Instr.undefinedVerb 1 (List.replicate 241 0)).wellFormed = false := by decide +kernel

theorem test_wf_refuses_an_empty_response : (Instr.responseComplete [] .ownerFirst).wellFormed = false := by decide

theorem test_wf_refuses_ten_characters_of_a_response :
    (Instr.responseComplete (List.replicate 10 0) .ownerFirst).wellFormed = false := by decide

theorem test_wf_refuses_an_empty_pendant_frame :
    (Instr.pendantFrameObserved [] .endingFirst).wellFormed = false := by decide

theorem test_wf_refuses_eight_characters_of_a_pendant_frame :
    (Instr.pendantFrameObserved (List.replicate 8 0) .endingFirst).wellFormed = false := by decide

theorem test_wf_refuses_an_empty_pendant_response :
    (Instr.pendantResponseObserved [] .endingFirst).wellFormed = false := by decide

theorem test_wf_refuses_ten_characters_of_a_pendant_response :
    (Instr.pendantResponseObserved (List.replicate 10 0) .endingFirst).wellFormed = false := by decide

theorem test_wf_takes_the_longest_commands :
    (Instr.unknownOperation 1 0x7F (List.replicate 239 0)).wellFormed = true ∧
    (Instr.undefinedVerb 1 (List.replicate 240 0)).wellFormed = true ∧
    (Instr.pendantFrameObserved (List.replicate 7 0) .endingFirst).wellFormed = true ∧
    (Instr.payloadLengthAbove240 0x10 1 241).wellFormed = true := by decide +kernel

/-! ### The words of the two links -/

/-- The published check value of this CRC-16 over the characters 1 to 9 is 0x29B1, of the CRC-8 0xF4. -/
theorem test_check_sequences :
    crc16 [0x31, 0x32, 0x33, 0x34, 0x35, 0x36, 0x37, 0x38, 0x39] = 0x29B1 ∧
    crc8 [0x31, 0x32, 0x33, 0x34, 0x35, 0x36, 0x37, 0x38, 0x39] = 0xF4 := by decide +kernel

/-- At one priority the lower address prevails, and a lower priority value goes before any address. -/
theorem test_arbitration : prevails (arbitrationChar 3 29) (arbitrationChar 3 30) = true ∧
    prevails (arbitrationChar 3 30) (arbitrationChar 3 31) = true ∧
    prevails (arbitrationChar 1 31) (arbitrationChar 2 29) = true ∧
    isPendantChar (arbitrationChar 0 29) = true ∧ isPendantChar (arbitrationChar 0 30) = false := by decide +kernel

theorem test_status_is_read :
    readAnswer { dest := 1, drum := 0, kind := 0, poll := true } statusChars 0 = some (.status (aReport .closed 2000)) := by
  decide +kernel

theorem test_a_request_reads_back :
    (HostFrame.read ((Request.line .tendOn 1 0x0102).frame 7).bytes).map HostFrame.request
      = some (.line .tendOn 1 0x0102) := by decide +kernel

/-! ### Small steps -/

theorem test_empty_queue_is_a_millisecond :
    after (step (machine { quiet with quay := { quiet.quay with silenceTimer := some 5 } }))
      (fun d => d.quay.silenceTimer) = some (some 4) := by decide

theorem test_tend_on : after (exec (.tendOn 1 1 0) (machine (shipIn .locked)))
    (fun d => (d.lines[0].state, replied d)) = some (.tending, some (.ok, [])) := by decide

theorem test_tend_on_wrong_state : after (exec (.tendOn 1 1 0) (machine (shipIn .ready)))
    (fun d => (d.lines[0].state, replied d)) = some (.ready, some (.badState, [])) := by decide

theorem test_tend_off : after (exec (.tendOff 1 1 0) (machine (shipIn .tending)))
    (fun d => (d.lines[0].state, replied d)) = some (.locked, some (.ok, [])) := by decide

theorem test_heave_of_nothing_is_clamped : after (exec (.heave 1 1 0) (machine (shipIn .locked)))
    (fun d => (d.bridge.posted.map (fun p => p.arg), replied d)) = some ([1], some (.clamped, [0, 1])) := by decide

theorem test_payout_goes_on_the_free_bus : after (exec (.payout 1 1 40) (machine (shipIn .locked)))
    (fun d => d.bus.exchange.map fun x => (x.frame.verb, x.frame.arg, x.frame.dest)) = some (some (.payout, 40, 1)) := by
  decide

theorem test_hold_takes_a_line_from_tending : after (exec (.hold 1 1 9) (machine (shipIn .tending)))
    (fun d => (d.lines[0].state, d.bridge.posted.map (fun p => p.arg))) = some (.locked, [0]) := by decide

theorem test_run_out_is_clamped_to_the_longest : after (exec (.runOut 1 1 6001) (machine (shipIn .stowed)))
    (fun d => (d.lines[0].state, replied d)) = some (.runningOut, some (.clamped, [0x17, 0x70])) := by decide

theorem test_lock : after (exec (.lock 1 1 0) (machine (shipIn .ready)))
    (fun d => (d.lines[0].state, replied d)) = some (.locking, some (.wait, [1, 0])) := by decide

theorem test_release : after (exec (.release 1 1 0) (machine (shipIn .tending)))
    (fun d => (d.lines[0].state, d.bus.exchange.map fun x => x.frame.action)) = some (.releasing, some 0) := by decide

theorem test_rewind_sends_the_stow_length : after (exec (.rewind 1 1 0) (machine (shipIn .released)))
    (fun d => (d.lines[0].state, d.bus.exchange.map fun x => x.frame.arg)) = some (.rewinding, some 200) := by decide

theorem test_assign_line : after (exec (.assignLine 1 2 5 1 3) (machine quiet))
    (fun d => (d.lines[1].state, d.lines[1].binding)) =
      some (.fault, some { station := 4, drum := .b, group := 3 }) := by decide

theorem test_unassign_line : after (exec (.unassignLine 1 1) (machine (shipIn .ready)))
    (fun d => (d.lines[0].state, d.lines[0].binding)) = some (.unassigned, none) := by decide

theorem test_load_envelope_needs_its_order : after (exec (.loadEnvelope 1 1 2 2 4 5 6 7 3 2) (machine quiet))
    replied = some (some (.badArgument, [])) := by decide

theorem test_load_envelope_clamps : after (exec (.loadEnvelope 1 1 1 2 3 4 5 4096 0 5) (machine quiet))
    (fun d => (d.lines[0].config.hyst, d.lines[0].config.persistence, d.lines[0].config.criticalCount)) =
      some (4095, 1, 4) := by decide

theorem test_load_calibration : after (exec (.loadCalibration 1 1 100 0 5 2) (machine (shipIn .locked)))
    (fun d => (d.lines[0].config.span, d.lines[0].config.shift, d.lines[0].config.cable)) = some (1, 4, .low) := by
  decide

theorem test_load_limits : after (exec (.loadLimits 1 1 100 200 200 0 256 120 50 30 256) (machine quiet))
    (fun d => (d.lines[0].config.tendStep, d.lines[0].config.runOutTime, d.lines[0].config.divisor)) =
      some (1, 255, 255) := by decide

theorem test_clear_fault : after (exec (.clearFault 1 1) (machine (shipIn .fault)))
    (fun d => (d.lines[0].state, d.lines[0].resync)) = some (.fault, true) := by decide

theorem test_abort_line : after
    (exec (.abortLine 1 1) (machine ((shipIn .locking).setSlot 2 (slotIn .awaiting .lock))))
    (fun d => (d.bridge.slots[2].result, d.bus.stationSource.map fun x => x.frame)) =
      some (some .aborted, [.stop .a]) := by decide

theorem test_load_trigger_level_fires_at_once : after
    (exec (.loadTrigger 1 3 2 0 1 1 0 1 1 0) (machine quiet))
    (fun d => (d.trig.entries[3].source, d.trig.entries[3].status, d.trig.alm)) =
      some (.input 0, .awaitingAck, true) := by decide

theorem test_trigger_ack_of_an_idle_entry : after (exec (.triggerAck 1 11) (machine quiet)) replied =
    some (some (.badState, [])) := by decide

theorem test_fire_trigger_of_a_disabled_entry : after (exec (.fireTrigger 1 0) (machine quiet)) replied =
    some (some (.badState, [])) := by decide

theorem test_set_scan_off_applies_at_once : after (exec (.setScan 1 0 16 0 0 256) (machine quiet))
    (fun d => (d.scan.config.target, d.scan.config.interval)) = some (15, 255) := by decide

theorem test_set_link : after (exec (.setLink 1 61 0 6 16 9 4) (machine quiet))
    (fun d => (d.quay.link, d.quay.silenceTimer)) =
      some ({ silence := 60, discard := 1, hold := 6, window := 15, retry := 8, powerGood := 3 }, some 60000) := by decide

theorem test_station_config : after (exec (.stationConfig 1 16 1 0) (machine quiet))
    (fun d => (d.stations[15].mask, d.stations[15].missedLimit)) = some (.individual, 1) := by decide

theorem test_global_power_on : after (exec (.globalPower 1 0) (machine quiet))
    (fun d => (d.stations[0].power, d.stations[15].powerGood)) = some (.powering, some 250) := by decide +kernel

theorem test_global_power_off_names_the_busy_station : after (exec (.globalPower 1 1) (machine (shipIn .locked)))
    replied = some (some (.stationBusy, [1])) := by decide +kernel

theorem test_enable_station : after
    (exec (.enableStation 1 1) (machine (quiet.setStation 0 { enabled := false })))
    (fun d => (d.stations[0].enabled, d.stations[0].flags.enable)) = some (true, true) := by decide

theorem test_park : after (exec (.park 1 1) (machine (shipIn .stowed)))
    (fun d => d.bus.exchange.map fun x => (x.frame.verb, x.frame.dest)) = some (some (.park, 1)) := by decide

theorem test_unpark_of_a_station_not_parked : after (exec (.unpark 1 1) (machine (shipIn .stowed))) replied =
    some (some (.ok, [])) := by decide

theorem test_station_reset : after (exec (.stationReset 1 1) (machine (shipIn .stowed)))
    (fun d => (d.stations[0].resetting, d.bus.exchange.map fun x => x.frame.verb)) = some (true, some .reset) := by decide

theorem test_ack_station_changes : after
    (exec (.ackStationChanges 1 1 1) (machine (quiet.setStation 0
      { flags := { presence := true, enable := true, park := false, fault := false, reset := false } })))
    (fun d => d.stations[0].flags.byte) = some 2 := by decide

theorem test_read_status_part_three : after (exec (.readStatus 1 3) (machine quiet)) replied =
    some (some (.badArgument, [])) := by decide

theorem test_read_scan : after (exec (.readScan 1) (machine quiet)) (fun d => (replied d).map fun p => p.1) =
    some (some .ok) := by decide

theorem test_read_line : after (exec (.readLine 1 17) (machine quiet)) replied = some (some (.badArgument, [])) := by
  decide

theorem test_read_trigger : after (exec (.readTrigger 1 12) (machine quiet)) replied =
    some (some (.badArgument, [])) := by decide

theorem test_unknown_operation : after (exec (.unknownOperation 1 0x7F [1, 2]) (machine quiet)) replied =
    some (some (.unknownOperation, [])) := by decide

theorem test_undefined_verb : after (exec (.undefinedVerb 1 [1, 0x0A, 0, 0]) (machine quiet)) replied =
    some (some (.badArgument, [])) := by decide

theorem test_empty_management_takes_a_free_value : after (exec (.emptyManagementPayload 1) (machine quiet))
    (fun d => d.freeCount) = some 1 := by decide

theorem test_host_frame_received : after
    (exec (.hostFrameReceived ((Request.line .tendOn 1 0).frame 7).bytes) (machine (shipIn .locked)))
    (fun d => d.lines[0].state) = some .tending := by decide +kernel

theorem test_a_broken_host_frame_discards : after (exec (.hostFrameReceived [0x10, 1, 0, 0, 0]) (machine quiet))
    (fun d => d.quay.receiver) = some .discarding := by decide +kernel

theorem test_receiver_line_quiet : after (exec .receiverLineQuiet State.reset) (fun d => d.quay.receiver) =
    some .idle := by decide

theorem test_payload_length_above_240 : after (exec (.payloadLengthAbove240 0x10 1 241) (machine quiet))
    (fun d => d.quay.receiver) = some .discarding := by decide

theorem test_uplink_frame_sent : after (exec .uplinkFrameSent (machine (sending quiet aReply)))
    (fun d => d.quay.transmitter) = some none := by decide

theorem test_silence_timer_expires : after
    (exec .silenceTimerExpires (machine { quiet with quay := { quiet.quay with silenceTimer := some 0 } }))
    (fun d => (d.quay.hostSilent, d.quay.transmitter)) = some (true, some (.event (.hostSilent 0) false)) := by decide

/-- R87: a TRIGGER ACK on the host's return finds HOST_SILENT false, and the LEVEL entry on it does not fire again. -/
theorem test_trigger_ack_after_a_silence : after
    (exec (.triggerAck 1 0) (machine (Device.setEntry (withSilence true)
      0 { source := .hostSilent, enabled := true, mode := .level, status := .awaitingAck, edgeRef := true })))
    (fun d => (d.quay.hostSilent, d.trig.entries[0].status, replied d)) = some (false, .idle, some (.ok, [])) := by
  decide +kernel

/-- R87, R167: a SET LINK of silence time 0 is a valid frame too, so HOST_SILENT is false behind it. -/
theorem test_set_link_of_no_silence_time : after
    (exec (.setLink 1 0 10 6 4 3 1) (machine (withSilence true)))
    (fun d => (d.quay.hostSilent, d.quay.silenceTimer, d.quay.link.silence)) = some (false, none, 0) := by decide +kernel

theorem test_power_on_reset : after (exec .powerOnReset (machine (shipIn .locked)))
    (fun d => (d.lines[0].state, d.quay.receiver, d.bus.observer)) =
      some (.unassigned, .discarding, .foreign true) := by decide

theorem test_soft_reset_and_its_moment :
    after (exec (.softReset 1) (machine (shipIn .locked))) (fun d => d.quay.resetAwaiting) = some true ∧
    after (exec .resetTakesEffect (machine { sending (shipIn .locked) aReply with
      quay := { (sending (shipIn .locked) aReply).quay with resetAwaiting := true } }))
      (fun d => (d.lines[0].state, d.lines[0].resync, d.quay.resetAwaiting)) = some (.fault, true, false) := by
  decide +kernel

/-- R134: every line poll count becomes 0, that of an unassigned record too. -/
theorem test_soft_reset_of_an_unassigned_record :
    (quiet.setLine 15 { pollCount := 5 }).softResetBlocks.lines[(15 : LineId)].pollCount = 0 := by decide +kernel

theorem test_arbitration_lost : after
    (exec (.arbitrationLost (arbitrationChar 0 29)) (machine (onBus (shipIn .locked) (exchange .station .park))))
    (fun d => (d.bus.engine, d.bus.observer)) =
      some (.idle, .pendantFrame [arbitrationChar 0 29]) := by decide

theorem test_last_character_sent : after
    (exec .lastCharacterSent (machine (onBus (shipIn .locked) (exchange .station .park))))
    (fun d => (d.bus.engine, d.bus.window)) = some (.awaitingResponse, some 4) := by decide

theorem test_read_back_mismatch_counts_a_silence : after
    (exec (.readBackMismatch .ownerFirst) (machine (onBus (shipIn .locked) (exchange (.pollLine 0 false true) .poll))))
    (fun d => d.stations[0].missed) = some 1 := by decide

theorem test_response_first_character : after
    (exec (.responseFirstCharacter 0x61 .ownerFirst)
      (machine (awaiting (shipIn .locked) (exchange (.pollLine 0 false true) .poll) none)))
    (fun d => (d.bus.window, d.bus.response)) = some (none, some [0x61]) := by decide

theorem test_a_status_is_a_sample_of_its_line : after
    (exec (.responseComplete (statusChars.drop 1) .ownerFirst)
      (machine (awaiting (shipIn .locked) (exchange (.pollLine 0 false true) .poll) (some [0x61]))))
    (fun d => (d.lines[0].tension, d.lines[0].lastRaw, d.lines[0].lastAction)) =
      some (1700, some 1700, some (4, .done)) := by decide +kernel

theorem test_response_broken : after
    (exec (.responseBroken .monitorFirst)
      (machine (awaiting (shipIn .locked) (exchange (.pollLine 0 false true) .poll) (some [0x61]))))
    (fun d => (d.bus.engine, d.stations[0].missed)) = some (.idle, 1) := by decide

theorem test_the_third_silence_drops_the_station_out : after
    (exec (.responseWindowExpires .ownerFirst)
      (machine (awaiting ((shipIn .locked).setStation 0 { present with missed := 2 })
        (exchange (.pollLine 0 false true) .poll) none)))
    (fun d => (d.stations[0].presence, d.stations[0].enabled, d.lines[0].state, d.lines[0].cause)) =
      some (.absent, false, .fault, some .stationLost) := by decide +kernel

theorem test_observed_traffic : after
    (exec (.observedTrafficStarts (arbitrationChar 1 29)) (machine quiet)) (fun d => d.bus.observer) =
      some (.pendantFrame [arbitrationChar 1 29]) := by decide

theorem test_pendant_frame_and_answer_take_the_station_over :
    after (exec (.pendantFrameObserved ((pendantChars 1 0x05).drop 1) .endingFirst)
        (machine (watching (.pendantFrame [arbitrationChar 0 29]))))
      (fun d => d.bus.observer) = some (.pendantWindow (pendantChars 1 0x05) (some 4)) ∧
    after (exec (.pendantResponseObserved [0x21, crc8 [0x21]] .endingFirst)
        (machine ((shipIn .tending).setObserver (.pendantWindow (pendantChars 1 0x05) (some 4)))))
      (fun d => (d.lines[0].owner, d.lines[0].state, d.hold[0])) = some (.localOwner, .locked, some 60000) := by
  decide +kernel

theorem test_pendant_window_expires : after
    (exec .pendantWindowExpires (machine (watching (.pendantWindow (pendantChars 1 5) (some 0)))))
    (fun d => d.bus.observer) = some .quiet := by decide +kernel

theorem test_pendant_response_starts : after
    (exec (.pendantResponseStarts 0x21) (machine (watching (.pendantWindow (pendantChars 1 5) (some 1)))))
    (fun d => d.bus.observer) = some (.pendantResponse (pendantChars 1 5) [0x21]) := by decide +kernel

theorem test_quiet_lines :
    after (exec .observerLineQuiet (machine (watching (.foreign false)))) (fun d => d.bus.observer) = some .quiet ∧
    after (exec .busQuietAfterReset State.reset) (fun d => d.bus.observer) = some .quiet := by decide

theorem test_local_hold_timer_expires : after
    (exec (.localHoldTimerExpires 0) (machine { (shipIn .locked).setLine 0 { lineIn .locked with owner := .localOwner } with
      hold := put quiet.hold 0 (some 0) }))
    (fun d => (d.lines[0].owner, d.lines[0].resync, d.hold[0])) = some (.quay, true, none) := by decide +kernel

theorem test_power_good_timer_expires_and_the_probe_goes_out : after
    (exec (.powerGoodTimerExpires 2) (machine (quiet.setStation 2 { power := .powering, powerGood := some 0 })))
    (fun d => (d.stations[2].power, d.bus.exchange.map fun x => x.owner)) = some (.on, some (.probe 2)) := by decide +kernel

theorem test_release_timer_expires : after
    (exec (.releaseTimerExpires 0)
      (machine { (shipIn .releasing).setLine 0 { lineIn .releasing with triggerInFlight := some (2, 4) } with
        trig := { quiet.trig with releaseTimers := put quiet.trig.releaseTimers 0 (some 0) } }))
    (fun d => (d.lines[0].state, d.lines[0].cause, d.lines[0].triggerInFlight)) =
      some (.fault, some .commandFailed, none) := by decide

theorem test_action_timer_expires : after
    (exec (.actionTimerExpires 7) (machine ((shipIn .locking).setSlot 7
      { slotIn .awaiting .lock with actionTimer := some 0 })))
    (fun d => (d.bridge.slots[7].result, d.lines[0].state)) = some (some .actionTimeout, .fault) := by decide

theorem test_discard_timer_expires : after
    (exec (.discardTimerExpires 1) (machine ((shipIn .locked).setSlot 1
      { slotIn .complete .lock with discardTimer := some 0, result := some .done })))
    (fun d => (d.bridge.slots[1].state, d.quay.transmitter)) =
      some (.free, some (.event (.completionDiscarded 0 .lock 9 .done) false)) := by decide

theorem test_input_change_and_its_stability :
    after (exec (.inputLevelChange 2 .low) (machine quiet)) (fun d => d.trig.inputs[2]) =
      some { pin := .low, debounced := .high, stability := some 20 } ∧
    after (exec (.stabilityTimerExpires 2) (machine (quiet.setInput 2
      { pin := .low, debounced := .high, stability := some 0 }))) (fun d => d.trig.inputs[2]) =
      some { pin := .low, debounced := .low, stability := none } := by decide

/-! ### The statements' hypotheses are met

One theorem per statement that has hypotheses, named after it: for each clause a state and operands that meet all the
hypotheses of the clause, at a boundary value where they have a range. -/

/-- An event of severity INFO. -/
def anInfo : Event := .sensorRestored 0 4095

/-- An event of severity ALARM. -/
def anAlarm : Event := .hostSilent 60

/-- A sample of line 4. -/
def aSample : Sample :=
  { line := 3, kind := .normal, raw := 0, tension := 0, filtered := 0, band := .slack, length := 0, latch := .open_,
    motion := .stopped }

/-- A posted entry for line 1. -/
def aPosted : PostedEntry := { line := 0, station := 0, drum := .a, verb := .heave, arg := 1, order := 0 }

/-- A host frame with a payload of `n` zeros. -/
def frameOf (n : Nat) : HostFrame := { kind := .management, tag := 1, payload := List.replicate n 0 }

/-- The part with what the Quay Port holds changed. -/
def withQuay (f : QuayPort → QuayPort) : Device := { quiet with quay := f quiet.quay }

theorem shipIn_ready (st : LineState) : (shipIn st).ready := ⟨rfl, Nat.zero_lt_succ 3, rfl⟩

/-- Every statement about a host's request asks for a part that is ready: one with nothing waiting, and one with three
replies waiting behind the one being sent. -/
theorem meets_ready : (machine quiet).dev.ready ∧
    (machine (withQuay fun q => { q with
      replies := List.replicate 3 aReply, transmitter := some (.reply aReply) })).dev.ready :=
  ⟨⟨rfl, by decide, rfl⟩, ⟨rfl, by decide, rfl⟩⟩

theorem meets_EveryStepKeepsAlmRight :
    let d := (shipIn .tending).setLine 0 { lineIn .tending with band := .alarm }
    let s : State := { dev := { d with trig := { d.trig with alm := true } }, pending := [.tendOff 1 1 0] }
    AlmHolds s ∧ ∃ t, step s = .next t := by
  refine ⟨?_, _, rfl⟩
  unfold AlmHolds
  decide

/-- Every list and count at its bound: 16 tend requests, 32 polls, 12 trigger actions, 48 frames of the STATION source,
a poll run of 4 and a missed-response count of 15. -/
def fullLists : Device :=
  { onBus quiet (exchange .station .park) with
    tend := all16.map fun i => { line := i, direction := .heave, step := 1 }
    trig := { quiet.trig with
      entries := Vector.replicate 12 { status := .pending, action := .hold }
      actions := allEntries.map fun e => { entry := e, action := .hold, targets := [] } }
    scan := { quiet.scan with
      pollList := all16.map (fun i => PollEntry.line i false true) ++ all16.map PollEntry.probe }
    bus := { (onBus quiet (exchange .station .park)).bus with
      pollRun := 4
      exchange := some { exchange .station .park with undo := { rotation := [], pollRun := 4 } }
      stationSource := all16.flatMap fun st =>
        [{ station := st, frame := .stop .a }, { station := st, frame := .op .park }, { station := st, frame := .stop .b }] }
    stations := Vector.replicate 16 { missed := 15 } }

theorem meets_the_bounds_of_every_list : QueuesWithin (machine fullLists) ∧
    fullLists.tend.length = 16 ∧ fullLists.scan.pollList.length = 32 ∧ fullLists.trig.actions.length = 12 ∧
    fullLists.bus.stationSource.length = 48 := by
  unfold QueuesWithin
  decide +kernel

theorem meets_EveryStepKeepsTheQueuesWithin :
    let s : State :=
      { dev := { withQuay fun q => { q with
            events := List.replicate 16 anAlarm, replies := List.replicate 4 aReply
            rxBuffer := List.replicate 4 (frameOf 0), transmitter := some (.reply aReply) } with
          bridge := { quiet.bridge with posted := List.replicate 8 aPosted } }
        pending := [.uplinkFrameSent] }
    QueuesWithin s ∧ ∃ t, step s = .next t := by
  refine ⟨?_, _, rfl⟩
  unfold QueuesWithin
  decide

theorem meets_EventQueuePolicy :
    (List.replicate 15 anInfo).length < 16 ∧
    ((List.replicate 16 anAlarm).length = 16 ∧ anInfo.severity ≠ .alarm) ∧
    ((List.replicate 15 anAlarm ++ anInfo :: []).length = 16 ∧ (∀ x ∈ List.replicate 15 anAlarm, x.severity = .alarm) ∧
      anInfo.severity ≠ .alarm ∧ anAlarm.severity = .alarm) ∧
    ((List.replicate 16 anAlarm).length = 16 ∧ (∀ x ∈ List.replicate 16 anAlarm, x.severity = .alarm) ∧
      anAlarm.severity = .alarm) ∧
    (sending quiet aReply).quay.transmitter.isSome ∧
    (let q := (withQuay fun q => { q with events := [anInfo, anAlarm], overrun := true }).quay
     q.transmitter = none ∧ q.replies = [] ∧ q.events = anInfo :: [anAlarm]) := by decide

theorem meets_UplinkArbiterOrder :
    (sending quiet aReply).quay.transmitter = some (.reply aReply) ∧
    (let q := (withQuay fun q => { q with replies := [aReply], events := [anAlarm] }).quay
     q.transmitter = none ∧ q.replies = aReply :: []) ∧
    (let q := (withQuay fun q => { q with events := [anAlarm] }).quay
     q.transmitter = none ∧ q.replies = [] ∧ q.events = anAlarm :: []) ∧
    (let q := (withQuay fun q => { q with
        lastTelemetry := 2
        telemetry := put (put q.telemetry 3 { sample := some aSample, fresh := true }) 2
          { sample := some aSample, fresh := true } }).quay
     q.transmitter = none ∧ q.replies = [] ∧ q.events = [] ∧ q.telemetry[(3 : LineId)].fresh = true ∧
     q.telemetry[(3 : LineId)].sample = some aSample ∧
     ∀ j : LineId, q.telemetry[j].fresh = true →
        ((3 : LineId) - q.lastTelemetry - 1).val ≤ (j - q.lastTelemetry - 1).val) ∧
    (quiet.quay.transmitter = none ∧ quiet.quay.replies = [] ∧ quiet.quay.events = [] ∧
      ∀ j : LineId, quiet.quay.telemetry[j].fresh = false) := by decide +kernel

theorem meets_UplinkFrameEnds :
    (machine quiet).dev.quay.transmitter = none ∧
    (let q := (machine (sending quiet aReply)).dev.quay
     q.transmitter = some (.reply aReply) ∧ q.rxBuffer = [] ∧ q.resetAwaiting = false) ∧
    (let q := (machine (withQuay fun q => { q with
        transmitter := some (.reply aReply), rxBuffer := [frameOf 1], replies := List.replicate 4 aReply })).dev.quay
     q.transmitter = some (.reply aReply) ∧ q.rxBuffer = [frameOf 1] ∧ q.resetAwaiting = false ∧
     q.replies.length = 4) ∧
    (let q := (machine (withQuay fun q => { q with
        transmitter := some (.reply aReply), resetAwaiting := true })).dev.quay
     q.transmitter = some (.reply aReply) ∧ q.replies = [] ∧ q.resetAwaiting = true) := by decide

theorem meets_RequestsWaitOrAreLost :
    hostRequest (.softReset 1) = some (1, .softReset) ∧
    (let q := (machine (withQuay fun q => { q with replies := List.replicate 4 aReply })).heard.dev.quay
     4 ≤ q.replies.length) ∧
    (let q := (machine (withQuay fun q => { q with
        resetAwaiting := true, replies := List.replicate 3 aReply, rxBuffer := List.replicate 4 (frameOf 0) })).heard.dev.quay
     q.resetAwaiting = true ∧ q.replies.length < 4 ∧ 4 ≤ q.rxBuffer.length) ∧
    (let q := (machine (withQuay fun q => { q with
        resetAwaiting := true, replies := List.replicate 3 aReply, rxBuffer := List.replicate 3 (frameOf 0) })).heard.dev.quay
     q.resetAwaiting = true ∧ q.replies.length < 4 ∧ q.rxBuffer.length < 4) := by decide

theorem meets_EveryRequestReadsBackFromItsFrame :
    ((Request.line .payout 16 0xFFFF).canonical ∧ (Request.line .payout 16 0xFFFF).payload.length ≤ 240) ∧
    ((Request.unknown 0x7F (List.replicate 239 0)).canonical ∧
      (Request.unknown 0x7F (List.replicate 239 0)).payload.length = 240) ∧
    (Request.badLine [1, 0, 0, 0]).canonical ∧ (Request.wrongLength 0x3F [0]).canonical := by
  unfold Request.canonical
  decide +kernel

theorem meets_ReceiverFramesCharacters :
    ((frameOf 240).payload.length ≤ 240 ∧ (machine quiet).dev.quay.receiver = .idle) ∧
    ((240 : Byte).toNat ≤ 240 ∧ (0 : Byte).toNat ≤ 240 ∧ ([0, 0] : List Byte).length = (0 : Byte).toNat + 2 ∧
      HostFrame.read ((0x10 : Byte) :: 1 :: 0 :: [0, 0]) = none) ∧
    State.reset.dev.quay.receiver = .discarding ∧ 240 < (241 : Byte).toNat := by decide +kernel

theorem meets_SilenceMonitor :
    (withQuay fun q => { q with silenceTimer := some 0 }).quay.silenceTimer = some 0 ∧
    (machine quiet).dev.quay.silenceTimer = none ∧ quiet.quay.hostSilent = false ∧
    (withQuay fun q => { q with hostSilent := true }).quay.hostSilent = true := by decide

theorem meets_FramesWithNoMeaning :
    lineVerbOfCode 0 = none ∧ lineVerbOfCode 10 = none ∧ ([] : List Byte).length ≠ 2 ∧
    (List.replicate 238 (0 : Byte)).length ≠ 2 ∧ ([] : List Byte).length < 2 ∧ ([1] : List Byte).length < 2 ∧
    (0 : Byte).toNat ∉ operationCodes ∧ (255 : Byte).toNat ∉ operationCodes := by decide +kernel

theorem meets_ConfirmedRepeatIsAnsweredFromItsSlot :
    (let d := (machine ((shipIn .locking).setSlot 7 (slotIn .awaiting .lock))).heard.dev
     id16 1 = some 0 ∧ d.bridge.slots[(7 : SlotId)].holds 0 .lock 9 0 = true ∧
     d.bridge.slots[(7 : SlotId)].live = true ∧
     ∀ j : SlotId, j < 7 → d.bridge.slots[j].holds 0 .lock 9 0 = false) ∧
    (let d := (machine ((shipIn .locked).setSlot 0 { slotIn .complete .lock with result := some .done })).heard.dev
     d.bridge.slots[(0 : SlotId)].holds 0 .lock 9 0 = true ∧ d.bridge.slots[(0 : SlotId)].live = false ∧
     ∀ j : SlotId, j < 0 → d.bridge.slots[j].holds 0 .lock 9 0 = false) := by decide +kernel

theorem meets_ConfirmedCommandsChecksAndEffect :
    ∀ (i : LineId) (k : SlotId), id16 16 = some i →
      (machine (shipIn .ready)).heard.dev.bridge.slots[k].holds i .rewind 255 0xFFFF = false := by decide +kernel

theorem meets_SlotResultsActOnTheirLine :
    (let d := (shipIn .locking).setSlot 0 (slotIn .queued .lock)
     d.bridge.slots[(0 : SlotId)].command = some (slotCommand .lock) ∧ d.bridge.slots[(0 : SlotId)].live = true ∧
     d.bridge.slots[(0 : SlotId)].state = .queued ∧ d.lines[(0 : LineId)].state = ConfirmedVerb.lock.transitional) ∧
    (let d := (shipIn .fault).setSlot 7 (slotIn .awaiting .lock)
     d.bridge.slots[(7 : SlotId)].command = some (slotCommand .lock) ∧ d.bridge.slots[(7 : SlotId)].live = true ∧
     d.bridge.slots[(7 : SlotId)].state ≠ .queued ∧ d.lines[(0 : LineId)].state ≠ ConfirmedVerb.lock.transitional) := by
  decide

/-- Station 1 with everything that its loss ends: a TENDING line with its tend request, a live slot, a posted entry, an
abort STOP and a PARK in the STATION source, an open trigger target. -/
def busy : Device :=
  { (shipIn .tending).setSlot 7 (slotIn .issued .release) with
    tend := [{ line := 0, direction := .heave, step := 1 }]
    bridge := { ((shipIn .tending).setSlot 7 (slotIn .issued .release)).bridge with posted := [aPosted] }
    trig := { quiet.trig with
      entries := put quiet.trig.entries 11 { status := .pending, action := .hold }
      actions := [{ entry := 11, action := .hold, targets := [{ line := 0, state := .waiting }] }] }
    bus := { quiet.bus with stationSource := [{ station := 0, frame := .stop .a }, { station := 0, frame := .op .park }] } }

/-- What the loss of station 1 leaves, seen in one state. -/
theorem test_a_power_off_ends_the_work_of_its_station :
    let t := busy.switchPower 0 false
    t.lines[(0 : LineId)].state = .fault ∧ t.lines[(0 : LineId)].cause = some .stationLost ∧ t.tend = [] ∧
    t.bridge.slots[(7 : SlotId)].result = some .noResponse ∧ t.bridge.posted = [] ∧ t.bus.stationSource = [] ∧
    t.trig.actions = [] ∧ t.stations[(0 : StationId)].power = .off ∧ t.stations[(0 : StationId)].flags.byte = 1 := by
  decide +kernel

theorem meets_PowerOperations :
    (quiet.stations[(0 : StationId)].power = .off ∧ 0 < quiet.quay.link.powerGood) ∧
    (let d := withQuay fun q => { q with link := { q.link with powerGood := 0 } }
     d.stations[(15 : StationId)].power = .off ∧ d.quay.link.powerGood = 0) ∧
    (let d := busy
     d.stations[(0 : StationId)].power ≠ .off ∧ d.lines[(0 : LineId)].onStation 0 = true ∧
     d.lines[(0 : LineId)].state = .tending ∧ d.lines[(15 : LineId)].onStation 0 = false ∧
     d.bridge.slots[(7 : SlotId)].live = true ∧ d.slotOnStation 0 d.bridge.slots[(7 : SlotId)] = true ∧
     (∃ r ∈ d.trig.actions, ∃ y ∈ r.targets, d.lines[y.line].onStation 0 = true)) := by decide +kernel

theorem meets_SoftResetAwaitsItsReply :
    (let d := withQuay fun q => { q with transmitter := some (.reply aReply), resetAwaiting := true }
     d.quay.resetAwaiting = true ∧ d.quay.replies = [] ∧ d.quay.transmitter = some (.reply aReply)) ∧
    quiet.quay.resetAwaiting = false ∧
    (withQuay fun q => { q with resetAwaiting := true, replies := [aReply] }).quay.replies ≠ [] ∧
    (withQuay fun q => { q with resetAwaiting := true }).quay.transmitter = none := by decide

theorem meets_SoftResetOfEveryBlock : (shipIn .tending).lines[(0 : LineId)].binding ≠ none ∧
    (shipIn .tending).lines[(15 : LineId)].binding = none := by decide

/-- The part in a repeating mode with its interval timer at 0. -/
def repeating (sweep : Option Sweep) (due : Bool) (pending : Option ScanConfig) : Device :=
  { shipIn .locked with scan := { quiet.scan with
      config := { mode := .repeat_, target := 0, scanSet := 0, prioritySet := 0, interval := 1 }, sweep := sweep
      sweepDue := due, pending := pending, intervalTimer := some 0 } }

/-- Line 1 in a state, the only target of entry 12's record in a state. -/
def firing (a : TriggerAction) (t : TargetState) (st : LineState) : Device :=
  { shipIn st with trig := { quiet.trig with
      entries := put quiet.trig.entries 11 { enabled := true, status := .pending, action := a }
      actions := [{ entry := 11, action := a, targets := [{ line := 0, state := t, attempts := 1 }] }] } }

/-- A frame of the STATION source for station 16. -/
def anOffer (v : BusVerb) : Offer := { owner := .station, station := some 15, priority := 3, verb := v, drum := .a }

theorem meets_ActionNumbersOfSendings :
    ((anOffer .park).station = some 15 ∧ (anOffer .park).verb ≠ .poll) ∧ (anOffer .poll).verb = .poll ∧
    ({ owner := .stopAll 11, station := none, priority := 0, verb := .stop, drum := .a } : Offer).station = none := by
  decide

/-- The part with a station operation and a probe of station 1 waiting. -/
def crowded (run : Nat) : Device :=
  { shipIn .stowed with
    bus := { quiet.bus with pollRun := run, stationSource := [{ station := 0, frame := .op .park }] }
    scan := { quiet.scan with pollList := [.line 0 false true] } }

theorem meets_SchedulerOrder :
    State.reset.dev.bus.observer ≠ .quiet ∧
    (onBus quiet (exchange .station .park)).bus.engine ≠ .idle ∧
    (let d : Device := { quiet with trig := { quiet.trig with
        actions := [{ entry := 0, action := .stopAll, targets := [] }] } }
     d.bus.engine = .idle ∧ d.bus.observer = .quiet ∧
     d.offerTrigger = some { owner := .stopAll 0, station := none, priority := 0, verb := .stop, drum := .a }) ∧
    (let d := crowded 4
     d.bus.engine = .idle ∧ d.bus.observer = .quiet ∧ d.offerTrigger = none ∧ d.bus.pollRun = 4 ∧
     ∃ p, d.chooseThree = some p) ∧
    (let d : Device := { crowded 3 with scan := { quiet.scan with pollList := [] } }
     d.bus.engine = .idle ∧ d.bus.observer = .quiet ∧ d.offerTrigger = none ∧ d.scan.pollList = [] ∧
     ∃ p, d.chooseThree = some p) ∧
    (let d := crowded 3
     d.bus.engine = .idle ∧ d.bus.observer = .quiet ∧ d.offerTrigger = none ∧ d.bus.pollRun ≠ 4 ∧
     Device.pruneHead 64 d = d ∧ ∃ o, d.offerPoll = some o) :=
  ⟨by decide, by decide, ⟨rfl, rfl, rfl⟩, ⟨rfl, rfl, rfl, rfl, _, rfl⟩, ⟨rfl, rfl, rfl, rfl, _, rfl⟩,
    ⟨rfl, rfl, rfl, by decide, rfl, _, rfl⟩⟩

theorem meets_SettlingLeavesTheRestAlone : State.reset.dev.bus.observer ≠ .quiet ∧
    (onBus quiet (exchange .station .park)).bus.engine ≠ .idle := by decide

theorem meets_LostArbitrationGivesBack :
    (let d := onBus quiet (exchange .station .park)
     d.bus.engine = .sending ∧ d.bus.exchange = some (exchange .station .park) ∧
     prevails (arbitrationChar 3 29) (arbitrationChar (exchange .station .park).frame.priority 30) = true) ∧
    quiet.bus.engine ≠ .sending ∧
    (∃ x, (quiet.sendThree (.station, anOffer .park)).bus.exchange = some x) ∧
    (let d : Device := { shipIn .locked with bridge := { quiet.bridge with posted := [aPosted] } }
     ∃ o, d.offerPosted = some o ∧ o.owner = .posted ∧ ∀ p ∈ d.bridge.posted.head?, p.sent = false) ∧
    (let d : Device := { shipIn .tending with tend := [{ line := 0, direction := .heave, step := 20 }] }
     ∃ o, d.offerTend = some o ∧ o.owner = .tend 0 ∧ ∀ y ∈ d.tend, y.line = 0 → y.sent = false) :=
  ⟨by decide, by decide, ⟨_, rfl⟩, ⟨_, rfl, rfl, by decide⟩, ⟨_, rfl, rfl, by decide⟩⟩

/-- A confirmed slot sent for the first time and one sent again, a trigger target, a line of a sweep and a probe. -/
theorem meets_LostArbitrationGivesBack_others :
    (let d := (shipIn .locking).setSlot 7 { slotIn .queued .lock with attempts := 0, action := none }
     (∃ o, d.offerConfirmed = some o ∧ o.owner = .confirmed 7) ∧ d.bridge.slots[(7 : SlotId)].state = .queued ∧
     d.bridge.slots[(7 : SlotId)].attempts = 0 ∧ (7 : SlotId) ∉ d.bridge.retries) ∧
    (let d₀ := (shipIn .locking).setSlot 7 (slotIn .issued .lock)
     let d : Device := { d₀ with bridge := { d₀.bridge with retries := [7] } }
     (∃ o, d.offerConfirmed = some o ∧ o.owner = .confirmed 7) ∧ d.bridge.slots[(7 : SlotId)].state = .issued ∧
     0 < d.bridge.slots[(7 : SlotId)].attempts ∧ d.bridge.retries = 7 :: []) ∧
    (let d := firing .release .waiting .releasing
     (∃ o, d.offerTrigger = some o ∧ o.owner = .trigger 11 0 ∧ o.verb = .release ∧ ∃ x, (d.send o).bus.exchange = some x) ∧
     ∀ r ∈ d.trig.actions, r.entry = 11 → ∀ y ∈ r.targets, y.line = 0 → y.state = .waiting) ∧
    (let d₀ := repeating (some { members := [(0, .outstanding)] }) false none
     let d : Device := { d₀ with scan := { d₀.scan with pollList := [.line 0 true false, .line 1 true true] } }
     (∃ o, d.offerPoll = some o ∧ o.owner = .pollLine 0 true false ∧ o.verb = .poll ∧
       ∃ x, (d.sendPoll o).bus.exchange = some x) ∧
     (∀ p ∈ [PollEntry.line 1 true true], p.isLine 0 = false) ∧
     ∀ w : Sweep, d.scan.sweep = some w → ∀ m ∈ w.members, m.1 = 0 → m.2 = .outstanding) ∧
    (let d : Device := { quiet.setStation 15 { power := .on } with
        scan := { quiet.scan with pollList := [.probe 15, .probe 0] } }
     (∃ o, d.offerPoll = some o ∧ o.owner = .probe 15 ∧ o.verb = .poll ∧ ∃ x, (d.sendPoll o).bus.exchange = some x) ∧
     ∀ p ∈ [PollEntry.probe 0], p.isProbe 15 = false) :=
  ⟨⟨⟨_, rfl, rfl⟩, rfl, rfl, by decide⟩, ⟨⟨_, rfl, rfl⟩, rfl, by decide, rfl⟩,
    ⟨⟨_, rfl, rfl, rfl, _, rfl⟩, by decide⟩,
    ⟨⟨_, rfl, rfl, rfl, _, rfl⟩, by decide, fun w h => by cases h; decide⟩,
    ⟨⟨_, rfl, rfl, rfl, _, rfl⟩, by decide⟩⟩

/-- The broadcast of entry 12's record on the bus. -/
def broadcast : Exchange :=
  { owner := .stopAll 11, frame := { priority := 0, dest := 31, verb := .stop }, station := none
    undo := { rotation := [], pollRun := 0 } }

theorem meets_LastCharacters :
    (let d := onBus quiet (exchange .station .park)
     d.bus.engine = .sending ∧ d.bus.exchange = some (exchange .station .park) ∧
     (exchange .station .park).station = some 0) ∧
    (let r : ActionRecord := { entry := 11, action := .stopAll, targets := [{ line := 0, state := .broadcast }] }
     let d : Device := { onBus (shipIn .locked) broadcast with trig := { quiet.trig with actions := [r] } }
     d.bus.engine = .sending ∧ d.bus.exchange = some broadcast ∧ broadcast.station = none ∧
     broadcast.owner = .stopAll 11 ∧ d.trig.actions.find? (fun r => decide (r.entry = 11)) = some r) ∧
    quiet.bus.engine ≠ .sending := by decide

theorem meets_SilentEndsOfAnExchange :
    (let d := onBus quiet (exchange .station .park)
     d.bus.engine = .sending ∧ d.bus.exchange = some (exchange .station .park) ∧
     (exchange .station .park).station = some 0) ∧
    ((onBus quiet broadcast).bus.engine = .sending ∧ (onBus quiet broadcast).bus.exchange = some broadcast ∧
     broadcast.station = none) ∧
    (let d := awaiting quiet (exchange .station .park) (some [0x61])
     d.bus.engine = .awaitingResponse ∧ d.bus.exchange = some (exchange .station .park) ∧
     d.bus.response = some [0x61] ∧ d.bus.window = some 4) ∧
    (exchange .station .park).detached = false ∧
    ({ exchange .station .park with detached := true } : Exchange).detached = true ∧
    quiet.stations[(0 : StationId)].presence = .absent ∧
    (let r := (quiet.setStation 0 { present with missed := 1 }).stations[(0 : StationId)]
     r.presence = .present ∧ min 15 (r.missed + 1) < r.missedLimit) ∧
    (let r := (quiet.setStation 0 { present with missed := 15, missedLimit := 15 }).stations[(0 : StationId)]
     r.presence = .present ∧ r.missedLimit ≤ min 15 (r.missed + 1)) := by decide

theorem meets_ResponsesToThePart :
    (let d := awaiting quiet (exchange .station .park) none
     d.bus.engine = .awaitingResponse ∧ d.bus.exchange = some (exchange .station .park) ∧ d.bus.response = none ∧
     1 < responseLength 0x21) ∧
    (let d := awaiting quiet (exchange .station .park) (some [0x21])
     d.bus.response.getD [] ++ [crc8 [0x21]] = 0x21 :: [crc8 [0x21]] ∧
     ((0x21 : Byte) :: [crc8 [0x21]]).length = responseLength 0x21 ∧
     readAnswer (exchange .station .park).frame.asked [0x21, crc8 [0x21]] d.freeCount = some .ack) ∧
    (let x := exchange (.probe 0) .poll
     let d := awaiting quiet x none
     d.bus.response.getD [] ++ statusChars = 0x61 :: statusChars.drop 1 ∧
     statusChars.length = responseLength 0x61 ∧
     readAnswer x.frame.asked statusChars d.freeCount = some (.status (aReport .closed 2000))) ∧
    (let d := awaiting quiet (exchange (.probe 0) .poll) (some [0x21])
     d.bus.response.getD [] ++ [crc8 [0x21]] = 0x21 :: [crc8 [0x21]] ∧
     readAnswer (exchange (.probe 0) .poll).frame.asked [0x21, crc8 [0x21]] d.freeCount = none) ∧
    (responseLength 0x01 = 1 ∧ readAnswer (exchange (.probe 0) .poll).frame.asked [0x01] 0 = none) ∧
    (let q : Asked := { dest := 16, drum := 0, kind := 0, poll := false }
     1 ≤ q.dest ∧ q.dest ≤ 16 ∧ q.poll = false) ∧
    (let q : Asked := { dest := 1, drum := 1, kind := 2, poll := true }
     1 ≤ q.dest ∧ q.dest ≤ 16 ∧ q.poll = true) ∧
    (0 : Byte) ≠ crc8 [0x21] ∧ (0x21 : Byte).toNat % 32 ≠ 2 := by decide +kernel

/-- The owners' ends: each source with an item of it in flight, attempts left and spent. -/
theorem meets_ResponsesToThePart_owners :
    (let d : Device := { shipIn .tending with tend := [{ line := 0, direction := .heave, step := 1, sent := true, attempts := 3 }] }
     (∃ y, d.tend.find? (fun y => decide (y.line = 0)) = some y ∧ ¬y.attempts < d.quay.link.retry)) ∧
    (let d : Device := { shipIn .tending with tend := [{ line := 0, direction := .heave, step := 1, sent := true, attempts := 2 }] }
     (∃ y, d.tend.find? (fun y => decide (y.line = 0)) = some y ∧ y.attempts < d.quay.link.retry)) ∧
    (∃ ps, busy.bridge.posted = aPosted :: ps) ∧
    (∃ c, busy.bridge.slots[(7 : SlotId)].command = some c) ∧
    (∃ y, (firing .release .sent .releasing).targetOf 11 0 = some y) ∧
    (∃ x xs, busy.bus.stationSource = x :: xs ∧ x.frame = .stop .a) ∧
    (∃ x xs, (crowded 0).bus.stationSource = x :: xs ∧ x.frame = .op .park) :=
  ⟨⟨_, rfl, by decide⟩, ⟨_, rfl, by decide⟩, ⟨_, rfl⟩, ⟨_, rfl⟩, ⟨_, rfl⟩, ⟨_, _, rfl, rfl⟩, ⟨_, _, rfl, rfl⟩⟩

/-- R138: the response that finds its station again, with the reset-done flag and the park seen. -/
theorem test_a_response_of_an_absent_station :
    let d := ((shipIn .locked).setStation 0 { power := .on, resetting := true, missed := 2 }).setLine 0 (lineIn .locked)
    let t := d.monitorResponse 0 (.status { aReport .closed 2000 with resetDone := true, parked := true })
    (let r := t.stations[(0 : StationId)]
     r.presence = .present ∧ r.resetting = false ∧ r.parked = true ∧ r.missed = 0 ∧ r.flags.byte = 21) ∧
    t.lines[(0 : LineId)].resync = true := by decide +kernel

theorem meets_ObserverMoves :
    (quiet.bus.engine = .idle ∧ quiet.bus.observer = .quiet) ∧
    (watching (.pendantWindow [1] none)).bus.observer = .pendantWindow [1] none ∧
    (1 < responseLength 0x21 ∧ 1 < responseLength 0x61) ∧
    (∃ cs, (watching (.pendantFrame [1])).bus.observer = .pendantFrame cs) ∧
    (∃ f cs, (watching (.pendantResponse [1] [2])).bus.observer = .pendantResponse f cs) ∧
    (watching (.foreign false)).bus.observer = .foreign false ∧ State.reset.dev.bus.observer = .foreign true :=
  ⟨by decide, by decide, by decide, ⟨_, rfl⟩, ⟨_, _, rfl⟩, by decide, by decide⟩

/-- Station 1 taken by the pendant. -/
def local0 : Device :=
  { (shipIn .locked).setLine 0 { lineIn .locked with owner := .localOwner } with hold := put quiet.hold 0 (some 0) }

/-- The six cases of a complete pendant frame: a failed check, stations 1 and 16, STOP to all, HAND BACK to the part, and
any other. -/
theorem meets_PendantFrames :
    (∀ f ∈ [List.replicate 7 (1 : Byte), pendantChars 1 5, pendantChars 16 5, pendantChars 31 8, pendantChars 30 12,
        pendantChars 30 8, pendantChars 17 0],
      (watching (.pendantFrame (f.take 1))).bus.observer = .pendantFrame (f.take 1) ∧
      (f.take 1 ++ f.drop 1).length = 7) ∧
    crc8 ((List.replicate 7 (1 : Byte)).take 6) ≠ 1 ∧ crc8 ((pendantChars 1 5).take 6) = (pendantChars 1 5).getD 6 0 ∧
    ((pendantChars 16 5).getD 1 0).toNat % 32 = 16 ∧ ((pendantChars 31 8).getD 1 0).toNat % 32 = 31 := by
  decide +kernel

/-- A broadcast STOP meets a slot that was QUEUED and one that was sent; a HAND BACK finds a station taken and one not. -/
theorem meets_PendantFrames_effects :
    (∀ st ∈ [SlotState.queued, .issued],
      let d := (shipIn .locking).setSlot 7 (slotIn st .lock)
      d.bridge.slots[(7 : SlotId)].command = some (slotCommand .lock) ∧ d.bridge.slots[(7 : SlotId)].live = true ∧
      (∀ j : SlotId, j ≠ 7 → d.bridge.slots[j].live = true → d.bridge.slots[j].forLine 0 = false) ∧
      d.lines[(0 : LineId)].binding ≠ none ∧
      d.broadcastStop.lines[(0 : LineId)].state = (if st = .queued then .locked else .locking)) ∧
    (∀ k : SlotId, (shipIn .tending).bridge.slots[k].live = false) ∧
    (shipIn .tending).lines[(15 : LineId)].binding = none ∧
    (let d := local0
     d.hold[(0 : StationId)].isSome ∧ d.hold[(15 : StationId)] = none ∧ d.lines[(0 : LineId)].onStation 0 = true ∧
     d.lines[(0 : LineId)].owner = .localOwner ∧ (d.handBack 1).lines[(0 : LineId)].owner = .quay ∧
     (d.handBack 31).hold[(0 : StationId)] = none ∧ (d.handBack 2).hold[(0 : StationId)] = some 0) := by decide +kernel

theorem meets_PendantAnswers :
    (let f := pendantChars 16 5
     let cs : List Byte := [0x30, crc8 [0x30]]
     (watching (.pendantWindow f none)).bus.observer = .pendantWindow f none ∧ cs.length = responseLength 0x30 ∧
     (watching (.pendantResponse f (cs.take 1))).bus.observer = .pendantResponse f [0x30] ∧
     [0x30] ++ cs.drop 1 = cs ∧ readAnswer (askedOf f) cs 0 = some .ack ∧ (askedOf f).dest = number 15) ∧
    (let f := pendantChars 16 5
     let cs : List Byte := [0x21, crc8 [0x21]]
     (watching (.pendantResponse f (cs.take 1))).bus.observer = .pendantResponse f [0x21] ∧ [0x21] ++ cs.drop 1 = cs ∧
     cs.length = responseLength 0x21 ∧ readAnswer (askedOf f) cs 0 = none) := by decide +kernel

theorem meets_TakeoverOfAStation :
    (∀ k : SlotId, (shipIn .tending).bridge.slots[k].state = .queued →
      (shipIn .tending).slotOnStation 0 (shipIn .tending).bridge.slots[k] = false) ∧
    (shipIn .tending).lines[(0 : LineId)].onStation 0 = true ∧
    (shipIn .tending).lines[(15 : LineId)].onStation 0 = false ∧
    ({ quiet with hold := put quiet.hold 0 (some 0) } : Device).hold[(0 : StationId)].isSome ∧
    quiet.hold[(0 : StationId)] = none ∧
    (let d := (shipIn .locking).setSlot 7 (slotIn .queued .lock)
     d.bridge.slots[(7 : SlotId)].state = .queued ∧ d.slotOnStation 0 d.bridge.slots[(7 : SlotId)] = true ∧
     d.bridge.slots[(7 : SlotId)].command = some (slotCommand .lock) ∧
     ∀ j : SlotId, j ≠ 7 → d.bridge.slots[j].state ≠ .queued) := by decide +kernel

/-- R152: a takeover gives a QUEUED slot's line back and leaves an ISSUED one. -/
theorem test_a_takeover_meets_slots :
    (let t := ((shipIn .releasing).setSlot 7 { slotIn .queued .release with
        command := some { slotCommand .release with prior := .tending } }).takeover 0 3
     t.lines[(0 : LineId)].state = .locked ∧ t.lines[(0 : LineId)].owner = .localOwner ∧
     t.bridge.slots[(7 : SlotId)].result = some .preempted) ∧
    (let t := ((shipIn .releasing).setSlot 7 (slotIn .issued .release)).takeover 0 3
     t.lines[(0 : LineId)].state = .releasing ∧ t.bridge.slots[(7 : SlotId)].state = .issued) := by decide +kernel

theorem meets_HoldAndPowerGoodExpiries :
    ({ quiet with hold := put quiet.hold 15 (some 0) } : Device).hold[(15 : StationId)] = some 0 ∧
    quiet.hold[(0 : StationId)] = none ∧
    (quiet.setStation 0 { power := .powering, powerGood := some 0 }).stations[(0 : StationId)].powerGood = some 0 ∧
    quiet.stations[(0 : StationId)].powerGood = none := by decide

theorem meets_ScanTimerExpiries :
    (let d : Device := { quiet.setStation 0 { power := .on } with
        scan := { quiet.scan with probe := put quiet.scan.probe 0 (some 0) } }
     d.scan.probe[(0 : StationId)] = some 0 ∧ d.stations[(0 : StationId)].probeDue = true) ∧
    (let d : Device := { (shipIn .releasing).setLine 0 { lineIn .releasing with triggerInFlight := some (0, 0) } with
        scan := { quiet.scan with followUp := put quiet.scan.followUp 0 (some 0) } }
     d.scan.followUp[(0 : LineId)] = some 0 ∧ d.followUpDue 0 = true) ∧
    (let w : Sweep := { members := [(0, .inFlight)] }
     let d := repeating (some w) false none
     d.scan.intervalTimer = some 0 ∧ d.scan.sweep = some w ∧ d.scan.config.mode.repeats = true ∧
     d.scan.sweepDue = false ∧ (repeating (some w) true none).scan.sweepDue = true) ∧
    (let d := repeating none false none
     d.scan.sweep = none ∧ d.scan.config.mode.repeats = true ∧ d.scan.pending = none) ∧
    (let c : ScanConfig := { mode := .off, interval := 255 }
     (repeating none false (some c)).scan.pending = some c) := by decide

/-- The part in a mode with its interval timer at 0 and a scan set of lines 1 and 2. -/
def scanning (m : ScanMode) (sweep : Option Sweep) (due : Bool) (pending : Option ScanConfig) : Device :=
  { shipIn .locked with scan := { quiet.scan with
      config := { mode := m, target := 0, scanSet := 3, prioritySet := 0, interval := 1 }, sweep := sweep
      sweepDue := due, pending := pending, intervalTimer := some 0 } }

/-- The modes with members and with none, the last member and one before, a sweep due or not, a configuration pending or
not. -/
theorem meets_ScanTimerExpiries_sweeps :
    (∀ m ∈ [ScanMode.single, .sweep], (scanning m none false none).scan.sweep = none ∧
      (scanning m none false none).scan.config.mode = m ∧
      (scanning m none false none).sweepMembers = [0] ∧ m.repeats = false) ∧
    (∀ m ∈ [ScanMode.repeat_, .repeatSweep, .prioritySweep], m.repeats = true) ∧
    (scanning .prioritySweep none false none).outsideLine = some 0 ∧
    (scanning .prioritySweep none false none).sweepMembers = [0] ∧
    (repeating none false none).sweepMembers ≠ [] ∧ quiet.sweepMembers = [] ∧
    ({ scanning .sweep none false none with stations := quiet.stations } : Device).sweepMembers = [] ∧
    ({ scanning .repeatSweep none false none with stations := quiet.stations } : Device).sweepMembers = [] ∧
    (let w : Sweep := { members := [(0, .inFlight), (1, .outstanding)] }
     (scanning .sweep (some w) false none).scan.sweep = some w ∧
     ∃ p ∈ w.members.map (fun (p : LineId × MemberState) => if p.1 = 0 then (p.1, .done) else p), p.2 ≠ .done) ∧
    (let w : Sweep := { members := [(0, .inFlight), (1, .done)], sent := 2 }
     (∀ p ∈ w.members.map (fun (p : LineId × MemberState) => if p.1 = 0 then (p.1, MemberState.done) else p), p.2 = .done) ∧
     (scanning .sweep (some w) false (some { mode := .off, interval := 1 })).scan.config.mode.repeats = false ∧
     (scanning .repeatSweep (some w) true none).scan.sweepDue = true ∧
     (scanning .repeatSweep (some w) false none).scan.sweepDue = false) := by decide +kernel

/-- R126: the last member of a SWEEP queues SCAN_DONE and the mode is OFF. -/
theorem test_a_sweep_finishes :
    let t := (scanning .sweep (some { members := [(0, .inFlight)], sent := 1 }) false none).memberDone 0 true
    t.scan.config.mode = .off ∧ t.scan.sweep = none ∧
    t.quay.transmitter = some (.event (.scanDone .sweep 1 1) false) := by decide +kernel

theorem meets_SlotAndReleaseTimerExpiries :
    (let d := quiet.setSlot 0 { slotIn .awaiting .lock with actionTimer := some 0 }
     d.bridge.slots[(0 : SlotId)].state = .awaiting ∧ d.bridge.slots[(0 : SlotId)].actionTimer = some 0) ∧
    quiet.bridge.slots[(7 : SlotId)].state ≠ .awaiting ∧
    (let d := quiet.setSlot 7 { slotIn .complete .lock with discardTimer := some 0, result := some .aborted }
     d.bridge.slots[(7 : SlotId)].discardTimer = some 0 ∧
     d.bridge.slots[(7 : SlotId)].command = some (slotCommand .lock) ∧
     d.bridge.slots[(7 : SlotId)].result = some .aborted) ∧
    quiet.bridge.slots[(0 : SlotId)].discardTimer = none ∧
    (∀ st ∈ [LineState.releasing, .locked],
      let d : Device := { (shipIn st).setLine 0 { lineIn st with triggerInFlight := some (11, 15) } with
        trig := { quiet.trig with releaseTimers := put quiet.trig.releaseTimers 0 (some 0) } }
      d.trig.releaseTimers[(0 : LineId)] = some 0 ∧ d.lines[(0 : LineId)].triggerInFlight = some (11, 15) ∧
      d.lines[(0 : LineId)].state = st) ∧
    quiet.trig.releaseTimers[(15 : LineId)] = none := by decide

theorem meets_InputDebouncing :
    (quiet.setInput 3 { pin := .low, debounced := .high, stability := some 0 }).trig.inputs[(3 : InputId)].stability =
      some 0 ∧
    quiet.trig.inputs[(0 : InputId)].stability = none := by decide

/-- An entry on input 1, active high, in a status with an edge reference. -/
def onInput (pol : Polarity) (status : DeliveryStatus) (ref : Bool) : Device :=
  quiet.setEntry 0 { source := .input 0, enabled := true, polarity := pol, status := status, edgeRef := ref }

theorem meets_EntriesTakeTheirConditions :
    (let d := onInput .activeHigh .idle true
     d.conditionOf d.trig.entries[(0 : EntryId)] = d.trig.entries[(0 : EntryId)].edgeRef) ∧
    (let d := onInput .activeHigh .idle false
     d.conditionOf d.trig.entries[(0 : EntryId)] = true ∧ d.trig.entries[(0 : EntryId)].edgeRef = false ∧
     d.trig.entries[(0 : EntryId)].enabled = true ∧ d.trig.entries[(0 : EntryId)].status = .idle) ∧
    (let d := onInput .activeLow .idle true
     d.conditionOf d.trig.entries[(0 : EntryId)] ≠ d.trig.entries[(0 : EntryId)].edgeRef ∧
     d.conditionOf d.trig.entries[(0 : EntryId)] = false) ∧
    (let d := onInput .activeHigh .pending false
     d.conditionOf d.trig.entries[(0 : EntryId)] ≠ d.trig.entries[(0 : EntryId)].edgeRef ∧
     d.trig.entries[(0 : EntryId)].status ≠ .idle) := by decide

/-- The classes of a target, the effects of a firing and its delivery: line 1 in each state that the clauses name. -/
theorem meets_EntriesTakeTheirConditions_firings :
    quiet.trig.entries[(0 : EntryId)].action = .report ∧
    (firing .slacken .sent .locked).trig.entries[(11 : EntryId)].action ≠ .report ∧
    (shipIn .locked).eligible 0 = true ∧ (shipIn .locked).eligible 15 = false ∧
    (∀ st ∈ [LineState.stowed, .ready, .fault, .locked, .tending, .runningOut, .locking, .rewinding, .releasing, .released],
      (shipIn st).lines[(0 : LineId)].state = st ∧ (shipIn st).eligible 0 = true) ∧
    (let d := shipIn .tending
     let en : TriggerEntry := { action := .hold, target := .group 3, source := .lineCritical 0 }
     d.targetLines en = [0] ∧ d.targetLines { en with target := .sourceLine } = [0] ∧
     d.targetLines { en with target := .lineSet 0x8001 } = [0, 15] ∧ d.targetLines { en with action := .stopAll } = [0]) ∧
    (let d := shipIn .tending
     d.liveSlot 0 = none ∧ (d.classify .hold 0).state = .waiting ∧ (d.classify .stopAll 0).state = .broadcast) ∧
    (let d := (shipIn .releasing).setSlot 7 (slotIn .issued .release)
     d.liveSlot 0 = some 7 ∧ d.bridge.slots[(7 : SlotId)].command = some (slotCommand .release)) ∧
    (let d := (shipIn .locking).setSlot 7 (slotIn .issued .lock)
     d.liveSlot 0 = some 7 ∧ d.bridge.slots[(7 : SlotId)].command = some (slotCommand .lock) ∧
     (d.targetEffect .release { line := 0, state := .waiting }).bridge.slots[(7 : SlotId)].result = some .preempted) ∧
    (∀ y ∈ ([] : List Target), y.state = .succeeded ∨ y.state = .failed) := by decide +kernel

/-- R22, R91 to R93: a STOP_ALL fires on a TENDING line, and a SLACKEN with no target left to send is delivered. -/
theorem test_firings :
    (let d := (shipIn .tending).setEntry 11 { enabled := true, action := .stopAll }
     let t := d.fire 11
     t.lines[(0 : LineId)].state = .locked ∧ t.trig.entries[(11 : EntryId)].status = .pending ∧ t.trig.alm = true ∧
     t.trig.actions = [{ entry := 11, action := .stopAll, targets := [{ line := 0, state := .broadcast }] }]) ∧
    (let d := (shipIn .fault).setEntry 11 { enabled := true, action := .slacken, target := .lineSet 1 }
     let t := d.fire 11
     t.trig.actions = [] ∧ t.trig.entries[(11 : EntryId)].status = .idle ∧ t.trig.entries[(11 : EntryId)].failed = 1) := by
  decide +kernel

theorem meets_TensionOfASample :
    (let c : LineConfig := { zero := 4095 }
     4095 ≤ c.zero) ∧
    (let c : LineConfig := { zero := 0, span := 4095 }
     c.zero < 1 ∧ c.zero = 0 ∧ 4095 ≤ 4095 ∧ c.span ≤ 4095 ∧ c.tension 4095 = 65504) ∧
    (10 < 7 + 2 ^ 2 ∧ 7 < 10 + 2 ^ 2 ∧ filterStep 2 7 10 = 10 ∧ filterStep 2 6 10 = 9) ∧
    (quiet.lines[(0 : LineId)].config.critical ≤ 5500 ∧ 5499 < quiet.lines[(0 : LineId)].config.critical) := by
  decide

/-- A report of a raw sample of a kind. -/
def aSampleOf (k : SampleKind) (raw : Nat) : Report := { aReport .closed 2000 with kind := k, raw := raw }

/-- The part with line 1's record changed. -/
def withLine (f : LineRecord → LineRecord) : Device := (shipIn .tending).updLine 0 f

/-- The rail test at both rails, with each mark; the stages at their boundaries. -/
theorem meets_TensionOfASample_stages :
    (∀ m ∈ [SensorMark.ok, .suspect, .open_],
      let d := withLine fun r => { r with config := { r.config with cable := .high }, sensor := m }
      d.lines[(0 : LineId)].sensor = m ∧ d.lines[(0 : LineId)].config.cable = .high ∧
      (aSampleOf .checkHigh 4088).kind = .checkHigh ∧ 4088 ≤ (aSampleOf .checkHigh 4088).raw ∧
      ¬4088 ≤ (aSampleOf .checkHigh 4087).raw) ∧
    (∀ m ∈ [SensorMark.ok, .suspect, .open_],
      let d := withLine fun r => { r with config := { r.config with cable := .low }, sensor := m }
      d.lines[(0 : LineId)].sensor = m ∧ d.lines[(0 : LineId)].config.cable = .low ∧
      (aSampleOf .checkLow 7).raw ≤ 7 ∧ ¬(aSampleOf .checkLow 8).raw ≤ 7) ∧
    (withLine id).lines[(0 : LineId)].config.cable = .none ∧
    (let r := (withLine fun r => { r with criticalRun := 2 }).lines[(0 : LineId)]
     r.criticalRun = r.config.criticalCount ∧ r.band ≠ .critical) ∧
    (let r := (withLine fun r => { r with criticalRun := 2, band := .critical }).lines[(0 : LineId)]
     r.criticalRun = r.config.criticalCount ∧ r.band = .critical) ∧
    (let r := (withLine fun r => { r with criticalRun := 1, band := .critical, tension := 5500 }).lines[(0 : LineId)]
     r.band = .critical ∧ r.config.critical ≤ r.tension) ∧
    (let r := (withLine fun r => { r with filtered := 2801, candidate := some .high, persistCount := 1 }).lines[(0 : LineId)]
     r.criticalRun ≠ r.config.criticalCount ∧ r.band ≠ .critical ∧ r.candidateFor r.filtered ≠ r.band ∧
     r.persistCount + 1 < r.config.persistence) ∧
    (let r := (withLine fun r => { r with filtered := 2801, candidate := some .high, persistCount := 2 }).lines[(0 : LineId)]
     r.candidateFor r.filtered ≠ r.band ∧ r.config.persistence ≤ r.persistCount + 1) ∧
    (let r := (withLine fun r => { r with filtered := 2800 }).lines[(0 : LineId)]
     r.candidateFor r.filtered = r.band) ∧
    ((withLine id).lines[(0 : LineId)].state = .tending ∧ (withLine id).lines[(0 : LineId)].owner = .quay ∧
      (withLine id).eligible 0 = true ∧ quiet.eligible 0 = false) := by decide +kernel

/-- R30, R39: the second rail sample opens the sensor and ends tending; the second critical sample enters CRITICAL. -/
theorem test_a_sample_ends_tending :
    (let t := (withLine fun r => { r with config := { r.config with cable := .high }, sensor := .suspect }).takeSample 0
        (aSampleOf .checkHigh 4088)
     t.lines[(0 : LineId)].sensor = .open_ ∧ t.lines[(0 : LineId)].state = .locked) ∧
    (let t := (withLine fun r => { r with config := { r.config with span := 4095 }, criticalRun := 1 }).takeSample 0
        (aSampleOf .normal 4095)
     t.lines[(0 : LineId)].band = .critical ∧ t.lines[(0 : LineId)].state = .locked) := by
  decide +kernel

theorem meets_CandidateBands :
    (let c : LineConfig := {}
     c.slack < c.low ∧ c.low < c.high ∧ c.high < c.alarm ∧ c.rawBand 199 = .slack ∧ c.rawBand 200 = .low ∧
     c.rawBand 1500 = .working ∧ c.rawBand 2800 = .working ∧ c.rawBand 2801 = .high ∧ c.rawBand 4000 = .alarm) ∧
    (let r : LineRecord := {}
     r.band.rank < (r.config.rawBand 2801).rank ∧ (r.config.rawBand 1499).rank < r.band.rank ∧
     r.config.rawBand 1500 = r.band ∧ r.candidateFor 1400 = .working ∧ r.candidateFor 1399 = .low) ∧
    ({ band := .critical } : LineRecord).band = .critical := by decide

theorem meets_ReconcileFromAReport :
    (lineIn .locked).resync = false ∧ (lineIn .locked).owner = .quay ∧
    ({ lineIn .fault with resync := true } : LineRecord).resync = true ∧
    ({ lineIn .locked with owner := .localOwner } : LineRecord).owner = .localOwner ∧
    (aReport .moving 0).latch = .moving ∧ (aReport .closed 0).latch = .closed ∧ (aReport .jammed 0).latch = .jammed ∧
    ((aReport .open_ 250).latch = .open_ ∧ (aReport .open_ 250).length ≤ (lineIn .fault).config.stow + 50) ∧
    (lineIn .fault).config.stow + 50 < (aReport .open_ 251).length := by decide

/-- A STATUS that finds its line and one that finds none; the slot and the trigger action in flight that it matches. -/
theorem meets_ReconcileFromAReport_matches :
    (shipIn .locked).lineAt 0 .a = some 0 ∧ (shipIn .locked).lineAt 0 .b = none ∧
    (let d := (shipIn .locking).setSlot 7 (slotIn .awaiting .lock)
     d.liveSlot 0 = some 7 ∧ d.bridge.slots[(7 : SlotId)].state = .awaiting ∧
     d.bridge.slots[(7 : SlotId)].action = some (aReport .closed 0).action ∧ (aReport .closed 0).status = .done) ∧
    (∀ k : SlotId, (shipIn .locking).liveSlot 0 ≠ some k) ∧
    (∀ st ∈ [LineState.releasing, .locked, .fault],
      let d := (shipIn st).setLine 0 { lineIn st with triggerInFlight := some (11, 4) }
      d.lines[(0 : LineId)].triggerInFlight = some (11, (aReport .closed 0).action) ∧
      d.lines[(0 : LineId)].state = st) ∧
    (shipIn .locked).lines[(0 : LineId)].triggerInFlight = none := by decide +kernel

/-- R19 (log entry 15): a JAMMED latch with both a live slot and a trigger action in flight ends both. -/
theorem test_a_jam_ends_the_slot_and_the_release :
    let d := ((shipIn .releasing).setLine 0 { lineIn .releasing with triggerInFlight := some (11, 9) }).setSlot 7
      { slotIn .issued .release with action := some 3 }
    let t := d.lineReport 0 { aReport .jammed 2000 with status := .busy }
    t.lines[(0 : LineId)].state = .fault ∧ t.lines[(0 : LineId)].cause = some .commandFailed ∧
    t.lines[(0 : LineId)].triggerInFlight = none ∧ t.bridge.slots[(7 : SlotId)].result = some .failed := by decide +kernel

theorem meets_TelemetryDecimation :
    (lineIn .locked).config.divisor = 0 ∧
    (let r : LineRecord := { config := { divisor := 255 }, telemetryCount := 254 }
     0 < r.config.divisor ∧ r.config.divisor ≤ r.telemetryCount + 1) ∧
    (let r : LineRecord := { config := { divisor := 255 }, telemetryCount := 253 }
     r.telemetryCount + 1 < r.config.divisor) ∧
    (sending quiet aReply).quay.transmitter.isSome := by decide

/-- A drop-out: the case of `meets_PowerOperations` serves its clauses; here they are seen in that state. -/
theorem meets_DropOutOfAStation :
    (busy.lines[(0 : LineId)].onStation 0 = true ∧ busy.lines[(0 : LineId)].state = .tending) ∧
    (let t := busy.dropOut 0
     t.lines[(0 : LineId)].state = .fault ∧ t.bridge.slots[(7 : SlotId)].result = some .noResponse ∧
     t.stations[(0 : StationId)].enabled = false ∧ t.stations[(0 : StationId)].flags.byte = 3 ∧
     t.trig.stationLost[(0 : StationId)] = true ∧ t.bridge.posted = [] ∧ t.trig.actions = []) := by decide +kernel

/-- The decision of a sample and the recheck: each band, a step that passes at the limit and one that does not, an entry
held and none. -/
theorem meets_EntryIntoFaultAndTendEntryRemoval_decisions :
    (∀ b ∈ [Band.working, .critical, .high, .alarm, .slack, .low],
      (withLine fun r => { r with band := b }).lines[(0 : LineId)].band = b) ∧
    (let r := (withLine fun r => { r with length := some 5980 }).lines[(0 : LineId)]
     r.length = some 5980 ∧ r.stepPasses .payout 20 = true ∧ r.stepPasses .payout 21 = false) ∧
    (let r := (withLine fun r => { r with length := some 520 }).lines[(0 : LineId)]
     r.length = some 520 ∧ r.stepPasses .heave 20 = true ∧ r.stepPasses .heave 21 = false ∧ r.lengthLimit = false) ∧
    (withLine fun r => { r with lengthLimit := true }).lines[(0 : LineId)].lengthLimit = true ∧
    (∀ y ∈ (withLine id).tend, y.line ≠ 0) ∧ (∃ y ∈ busy.tend, y.line = 0) ∧
    busy.tend.find? (fun y => decide (y.line = 0 ∧ y.sent = false)) = some { line := 0, direction := .heave, step := 1 } ∧
    busy.lines[(0 : LineId)].stepPasses .heave 1 = true ∧
    (busy.updLine 0 fun r => { r with length := some 500 }).lines[(0 : LineId)].stepPasses .heave 1 = false := by
  decide +kernel

theorem meets_EntryIntoFaultAndTendEntryRemoval :
    (let r : LineRecord := { lineIn .fault with cause := some .resync }
     r.state = .fault ∧ r.cause = some .resync ∧ ¬(r.state = .fault ∧ r.cause = some .latchJammed)) ∧
    (lineIn .tending).state = .tending ∧ (lineIn .locked).state ≠ .tending ∧
    (let d : Device := { shipIn .tending with tend := [{ line := 0, direction := .payout, step := 1 }] }
     ∀ t ∈ d.tend, t.line = 0 → t.sent = false) ∧
    (let d : Device := { onBus (shipIn .tending) (exchange (.tend 0) .heave) with
        tend := [{ line := 0, direction := .heave, step := 255, sent := true }] }
     d.bus.exchange = some (exchange (.tend 0) .heave) ∧ (exchange (.tend 0) .heave).owner = .tend 0 ∧
     ∃ t ∈ d.tend, t.line = 0 ∧ t.sent = true) := by decide

/-! ### The clauses on what is taken in, removed, offered and sent -/

theorem meets_RequestsWaitOrAreLost_ready :
    hostRequest (.softReset 1) = some (1, .softReset) ∧ (machine (shipIn .stowed)).dev.ready :=
  ⟨rfl, shipIn_ready .stowed⟩

/-- A receive buffer and a reply queue full, and with room for one more; a request that waits and is processed. -/
theorem meets_ReceiverFramesCharacters_taking :
    4 ≤ (withQuay fun q => { q with replies := List.replicate 4 aReply }).quay.replies.length ∧
    4 ≤ (withQuay fun q => { q with rxBuffer := List.replicate 4 (frameOf 0) }).quay.rxBuffer.length ∧
    (let q := (withQuay fun q => { q with
        replies := List.replicate 3 aReply, rxBuffer := List.replicate 3 (frameOf 0) }).quay
     q.replies.length < 4 ∧ q.rxBuffer.length < 4) ∧
    quiet.quay.rxBuffer = [] ∧ (withQuay fun q => { q with resetAwaiting := true }).quay.resetAwaiting = true ∧
    (let q := (withQuay fun q => { q with replies := List.replicate 3 aReply, rxBuffer := [frameOf 2] }).quay
     q.rxBuffer = [frameOf 2] ∧ q.replies.length < 4 ∧ q.resetAwaiting = false) := by decide

/-- A removal that meets no entry in flight, and one that meets the entry of the exchange on the bus. -/
theorem meets_UnassignLineChecksAndEffect_removal :
    (∀ y ∈ busy.bridge.posted, PostedEntry.isFor 0 y = true → y.sent = false) ∧
    (let d := onBus { quiet with bridge := { quiet.bridge with posted := [{ aPosted with sent := true }] } }
        (exchange .posted .heave)
     d.bus.exchange = some (exchange .posted .heave) ∧ (exchange .posted .heave).owner = .posted ∧
     ∃ y ∈ d.bridge.posted, PostedEntry.isFor 0 y = true ∧ y.sent = true) := by decide

/-- The offers of each owner, to one station or to all. -/
theorem meets_ActionNumbersOfSendings_owners :
    (∀ o ∈ ([.tend 0, .posted, .confirmed 7, .station, .trigger 11 0, .stopAll 11, .pollLine 0 true false, .probe 15] :
        List FrameOwner), ({ anOffer .lock with owner := o } : Offer).owner = o ∧
      ({ anOffer .lock with owner := o } : Offer).station = some 15 ∧ (anOffer .lock).verb ≠ .poll) ∧
    (anOffer .release).verb = .release ∧ (anOffer .hold).verb ≠ .release ∧
    busy.bridge.posted = aPosted :: [] ∧
    busy.bus.stationSource = { station := 0, frame := .stop .a } :: [{ station := 0, frame := .op .park }] ∧
    (∀ i : LineId, FrameOwner.station ≠ .tend i) ∧ (∀ k : SlotId, FrameOwner.station ≠ .confirmed k) ∧
    (∀ (e : EntryId) (i : LineId), FrameOwner.station ≠ .trigger e i) ∧
    (∀ (i : LineId) (s f : Bool), FrameOwner.station ≠ .pollLine i s f) ∧
    (∀ st : StationId, FrameOwner.station ≠ .probe st) ∧
    (frameTo .park).dest < 32 ∧ broadcast.frame.dest < 32 := by decide +kernel

/-- What a sending does to the item of its source, seen in one state for each. -/
theorem test_sendings_take_their_items :
    (((shipIn .tending).offerTend = none) ∧
     (let d : Device := { shipIn .tending with tend := [{ line := 0, direction := .heave, step := 20 }] }
      d.choose.tend = [{ line := 0, direction := .heave, step := 20, sent := true, attempts := 1 }])) ∧
    (let d := (firing .release .waiting .releasing).choose
     d.lines[(0 : LineId)].triggerInFlight = some (11, 0) ∧ d.scan.followUp[(0 : LineId)] = some 100) ∧
    (let d : Device := { shipIn .locked with scan := { quiet.scan with
        pollList := [.line 15 true false, .line 0 true false], sweep := some { members := [(0, .outstanding)] } } }
     d.choose.lines[(0 : LineId)].pollCount = 1 ∧ d.choose.scan.pollList = [] ∧
     d.choose.scan.sweep.map (fun w => (w.members, w.sent)) = some ([(0, .inFlight)], 1)) := by decide +kernel

/-- Heads of the poll list that pass their check and that do not. -/
theorem meets_SchedulerOrder_heads :
    (let d : Device := { shipIn .locked with scan := { quiet.scan with pollList := [.line 0 false true] } }
     d.scan.pollList = .line 0 false true :: [] ∧ d.eligible 0 = true ∧ d.scan.pollList.length ≤ 64) ∧
    (let d : Device := { shipIn .locked with scan := { quiet.scan with pollList := [.line 15 true false] } }
     d.scan.pollList = .line 15 true false :: [] ∧ d.eligible 15 = false) ∧
    (let d : Device := { quiet.setStation 15 { power := .on } with scan := { quiet.scan with pollList := [.probe 15] } }
     d.scan.pollList = .probe 15 :: [] ∧ d.stations[(15 : StationId)].probeDue = true) ∧
    (let d : Device := { quiet with scan := { quiet.scan with pollList := [.probe 0] } }
     d.scan.pollList = .probe 0 :: [] ∧ d.stations[(0 : StationId)].probeDue = false) ∧
    (let d := crowded 4
     d.bus.engine = .idle ∧ d.bus.observer = .quiet ∧ d.offerTrigger = none ∧ d.bus.pollRun = 4 ∧
     ({ d with bus := { d.bus with stationSource := [] } } : Device).chooseThree = none) ∧
    (let d' := Device.pruneHead 64 { crowded 3 with scan := { quiet.scan with pollList := [.line 15 false true] } }
     d'.offerPoll = none ∧ d'.chooseThree.isSome) ∧
    (let d' := Device.pruneHead 64 { quiet with scan := { quiet.scan with pollList := [.probe 0] } }
     d'.offerPoll = none ∧ d'.chooseThree = none) := by decide +kernel

/-- The sources with a frame to offer and with none, and a rotation whose second source is the first to offer. -/
theorem meets_SchedulerOrder_sources :
    (∀ a ∈ [TriggerAction.hold, .slacken, .release],
      let d := firing a .waiting .locked
      (∃ r y, d.trig.actions = r :: [] ∧ r.action = a ∧ r.targets = [] ++ y :: [] ∧ y.state = .waiting ∧
        d.lines[y.line].binding.isSome)) ∧
    (∃ r, (firing .hold .sent .locked).trig.actions = r :: [] ∧ r.action ≠ .stopAll ∧ ∀ y ∈ r.targets, y.state ≠ .waiting) ∧
    (∃ r, (firing .stopAll .broadcast .locked).trig.actions = r :: [] ∧ r.action = .stopAll) ∧
    (quiet.trig.actions = [] ∧ quiet.scan.pollList = [] ∧ quiet.bridge.posted = [] ∧ quiet.bus.stationSource = [] ∧
      ∀ y ∈ quiet.tend, y.sent = true) ∧
    ((crowded 0).scan.pollList = .line 0 false true :: [] ∧ (crowded 0).lines[(0 : LineId)].binding.isSome) ∧
    (aPosted.sent = false ∧ ({ aPosted with sent := true } : PostedEntry).sent = true) ∧
    (busy.tend = [] ++ { line := 0, direction := .heave, step := 1 } :: [] ∧ busy.lines[(0 : LineId)].binding.isSome) ∧
    (let d := crowded 0
     d.bus.rotation = [.posted, .confirmed, .tend] ++ .station :: [] ∧ d.offerPosted = none ∧ d.offerConfirmed = none ∧
     d.offerTend = none ∧ d.offerStation.isSome) ∧
    (∀ c ∈ quiet.bus.rotation, quiet.offerThree c = none) := by
  refine ⟨?_, ⟨_, rfl, by decide, by decide⟩, ⟨_, rfl, rfl⟩, by decide, by decide, by decide, by decide, by decide,
    by decide⟩
  intro a ha
  simp only [List.mem_cons, List.not_mem_nil, or_false] at ha
  rcases ha with rfl | rfl | rfl <;> exact ⟨_, _, rfl, rfl, rfl, rfl, rfl⟩

/-- CONFIRMED: a slot that waits for its retry; a QUEUED slot alone, taken before a posted entry of its station, and one
that waits behind it. -/
theorem meets_SchedulerOrder_confirmed :
    (let d₀ := (shipIn .locking).setSlot 7 (slotIn .issued .lock)
     let d : Device := { d₀ with bridge := { d₀.bridge with retries := [7] } }
     d.bridge.slots[(7 : SlotId)].command = some (slotCommand .lock) ∧ d.bridge.retries = 7 :: [] ∧
     d.lines[(slotCommand .lock).line].binding.isSome) ∧
    (let d := (shipIn .locking).setSlot 7 (slotIn .queued .lock)
     let e : Device := { d with bridge := { d.bridge with posted := [{ aPosted with order := 1 }] } }
     e.bridge.retries = [] ∧ e.bridge.slots[(7 : SlotId)].command = some (slotCommand .lock) ∧
     e.bridge.slots[(7 : SlotId)].state = .queued ∧
     (∀ p ∈ e.bridge.posted, e.lines[(slotCommand .lock).line].onStation p.station = true →
       (slotCommand .lock).order ≤ p.order) ∧
     ∀ j : SlotId, j ≠ 7 → e.bridge.slots[j].state ≠ .queued) ∧
    (let s : Slot := { slotIn .queued .lock with command := some { slotCommand .lock with order := 2 } }
     let d := (shipIn .locking).setSlot 7 s
     let e : Device := { d with bridge := { d.bridge with posted := [{ aPosted with order := 1 }] } }
     e.bridge.retries = [] ∧ (∀ j : SlotId, e.bridge.slots[j].state = .queued → j = 7) ∧
     ∃ p ∈ e.bridge.posted, e.lines[(0 : LineId)].onStation p.station = true ∧ p.order < 2) := by decide +kernel

theorem meets_LostArbitrationGivesBack_broadcast :
    (let o : Offer := { owner := .stopAll 11, station := none, priority := 0, verb := .stop, drum := .a }
     o.owner = .stopAll 11 ∧ ∃ x, ((firing .stopAll .broadcast .locked).send o).bus.exchange = some x) ∧
    ({ exchange .posted .heave with detached := true } : Exchange).detached = true :=
  ⟨⟨rfl, _, rfl⟩, rfl⟩

/-- A response of kind 0; the characters of a STATUS for each sample kind; what is no answer, each ground alone. -/
theorem meets_ResponsesToThePart_status :
    (let d := awaiting quiet (exchange .station .park) none
     d.bus.engine = .awaitingResponse ∧ d.bus.exchange = some (exchange .station .park) ∧ d.bus.response = none ∧
     (0x01 : Byte).toNat / 32 % 4 = 0 ∧ (0x9F : Byte).toNat / 32 % 4 = 0) ∧
    (∀ p ∈ ([(0, .normal), (1, .checkHigh), (2, .checkLow)] : List (Nat × SampleKind)),
      let q : Asked := { dest := 1, drum := 1, kind := p.1, poll := true }
      let c1 : Byte := BitVec.ofNat 8 (1 + 2 * p.1)
      (0x61 : Byte).toNat / 32 % 4 = 3 ∧ (0x61 : Byte).toNat % 32 = q.dest ∧ q.poll = true ∧ c1.toNat % 2 = q.drum ∧
      c1.toNat / 2 % 4 = q.kind) ∧
    (∀ q ∈ [({ dest := 1, drum := 0, kind := 0, poll := false } : Asked), { dest := 1, drum := 1, kind := 0, poll := true },
        { dest := 1, drum := 0, kind := 2, poll := true }], readAnswer q statusChars 0 = none) ∧
    (let q : Asked := { dest := 1, drum := 0, kind := 0, poll := true }
     readAnswer q (statusChars.take 8) 0 = none ∧ readAnswer q (statusChars.take 8 ++ [0]) 0 = none ∧
     (0x06 : Byte).toNat / 2 % 4 = 3 ∧ statusChars.getD 8 0 ≠ 0) := by decide +kernel

/-- R132: the probe timer of a station that is due and not running, due and running, and due no more. -/
theorem meets_HoldAndPowerGoodExpiries_probes :
    (let d := quiet.setStation 0 { power := .on }
     d.stations[(0 : StationId)].probeDue = true ∧ d.scan.probe[(0 : StationId)] = none ∧
     (d.syncProbe 0).scan.probe[(0 : StationId)] = some 1000 ∧ (d.syncProbe 0).scan.pollList = [.probe 0]) ∧
    (let d : Device := { quiet.setStation 0 { present with parked := true } with
        scan := { quiet.scan with probe := put quiet.scan.probe 0 (some 0) } }
     d.stations[(0 : StationId)].probeDue = true ∧ d.scan.probe[(0 : StationId)].isSome = true) ∧
    (let d : Device := { quiet.setStation 15 present with scan := { quiet.scan with probe := put quiet.scan.probe 15 (some 7) } }
     d.stations[(15 : StationId)].probeDue = false ∧ (d.syncProbe 15).scan.probe[(15 : StationId)] = none) := by
  decide +kernel

theorem meets_ScanTimerExpiries_pollList :
    (∀ s f : Bool, PollEntry.line 0 s f ∉ [PollEntry.line 1 true true, .probe 0]) ∧
    (∃ s f : Bool, PollEntry.line 15 s f ∈ [PollEntry.probe 15, .line 15 true false]) := by decide

/-- An entry of each source. -/
theorem meets_EntriesTakeTheirConditions_sources :
    ∀ src ∈ ([.lineCritical 15, .groupAlarm 15, .input 3, .hostSilent, .stationLost 15, .software] : List TriggerSource),
      ({ source := src } : TriggerEntry).source = src := by decide

/-- R85, R101: an unassigned line in band CRITICAL makes no condition true; an assigned one does, for its group alone. -/
theorem test_conditions_of_a_critical_line :
    (let d := withLine fun r => { r with band := .critical }
     d.conditionOf { source := .lineCritical 0 } = true ∧ d.conditionOf { source := .groupAlarm 3 } = true ∧
     d.conditionOf { source := .groupAlarm 4 } = false ∧ d.almCondition = true) ∧
    (let d := quiet.setLine 0 { band := .critical }
     d.conditionOf { source := .lineCritical 0 } = false ∧ d.almCondition = false) := by decide +kernel

end Sys2Proof.Tests
end

/-! ### The end of a confirmed slot (O20)

The Line Table's part of a slot's end is first written as a function of one line record (`afterResult`), to which
`applyResult_written` ties the model's operation; then `endSlot_of_live` gives the end of a slot as the report of its
result between two writes of the slot. -/

namespace Sys2Proof.Machine

/-! #### What the result of a slot makes of one line record -/

/-- Resync pending, unless the line is in FAULT (R13, R14). -/
def LineRecord.marked (r : LineRecord) : LineRecord := if r.state = .fault then r else { r with resync := true }

/-- The state a withdrawn slot gives back: the saved prior state, LOCKED for a TENDING that R9 rules out. -/
def LineRecord.restored (r : LineRecord) (prior : LineState) : LineState :=
  if prior = .tending ∧ (r.band = .critical ∨ r.sensor = .open_ ∨ r.owner = .localOwner) then .locked else prior

/-- A line record after the result of its slot (R13 to R16); `before` is the slot's state when it ended. -/
def LineRecord.afterResult (r : LineRecord) (c : SlotCommand) (before : SlotState) : SlotResult → LineRecord
  | .done => if r.state = c.verb.transitional then { r with state := c.verb.target } else r.marked
  | .failed | .actionTimeout | .refused | .noResponse =>
    if r.state = c.verb.transitional then { r with state := .fault, cause := some .commandFailed } else r.marked
  | .aborted | .preempted =>
    if before = .queued then
      if r.state = c.verb.transitional then { r with state := r.restored c.prior } else r
    else { r with resync := true }

/-- The results that R14 answers with FAULT. -/
def SlotResult.isFailure : SlotResult → Bool
  | .failed | .actionTimeout | .refused | .noResponse => true
  | .done | .aborted | .preempted => false

/-- The Quay Port after a slot's result: R14 alone queues an event, for a line in the verb's transitional state. -/
def Device.quayAfterResult (d : Device) (c : SlotCommand) (res : SlotResult) : QuayPort :=
  if res.isFailure = true ∧ d.lines[c.line].state = c.verb.transitional then
    (d.queueEvent (.lineFault c.line .commandFailed)).quay
  else d.quay

theorem SlotResult.isFailure_iff (res : SlotResult) :
    res.isFailure = true ↔ res = .failed ∨ res = .actionTimeout ∨ res = .refused ∨ res = .noResponse := by
  cases res <;> decide

theorem LineRecord.afterResult_of_isFailure (r : LineRecord) (c : SlotCommand) (b : SlotState) {res : SlotResult}
    (h : res.isFailure = true) : r.afterResult c b res =
      if r.state = c.verb.transitional then { r with state := .fault, cause := some .commandFailed } else r.marked := by
  obtain rfl | rfl | rfl | rfl := res.isFailure_iff.mp h <;> rfl

theorem LineRecord.afterResult_of_withdrawn (r : LineRecord) (c : SlotCommand) (b : SlotState) {res : SlotResult}
    (h : res = .aborted ∨ res = .preempted) : r.afterResult c b res =
      if b = .queued then
        if r.state = c.verb.transitional then { r with state := r.restored c.prior } else r
      else { r with resync := true } := by
  obtain rfl | rfl := h <;> rfl

theorem ConfirmedVerb.transitional_ne_fault (v : ConfirmedVerb) : v.transitional ≠ .fault := by
  cases v <;> decide

/-! #### The operations that write one line record -/

/-- Only the exchange in flight may change. -/
theorem detach_eq (d : Device) (o : FrameOwner) : d.detach o = { d with bus := (d.detach o).bus } := by
  unfold Device.detach
  split
  · split <;> rfl
  · rfl

/-- Only the tend request list and the exchange in flight may change (R48). -/
theorem removeTend_eq (d : Device) (i : LineId) :
    d.removeTend i = { d with tend := (d.removeTend i).tend, bus := (d.removeTend i).bus } := by
  unfold Device.removeTend
  dsimp only
  split
  · rw [detach_eq]
  · rfl

/-- What an event does to the Quay Port depends on the Quay Port alone. -/
theorem queueEvent_quay_congr {d d' : Device} (h : d'.quay = d.quay) (e : Event) :
    (d'.queueEvent e).quay = (d.queueEvent e).quay := by
  unfold Device.queueEvent
  rw [h]

/-- `d'` is `d` with line record `i` written as `r`, the Command Bridge untouched and the Quay Port become `q`. -/
structure LineWritten (d : Device) (i : LineId) (r : LineRecord) (q : QuayPort) (d' : Device) : Prop where
  lines : d'.lines = put d.lines i r
  bridge : d'.bridge = d.bridge
  quay : d'.quay = q

/-- Leaving the part alone is writing the record that stands. -/
theorem LineWritten.refl (d : Device) (i : LineId) : LineWritten d i d.lines[i] d.quay d :=
  ⟨(put_self _ _).symm, rfl, rfl⟩

theorem setState_written (d : Device) (i : LineId) (s : LineState) :
    LineWritten d i { d.lines[i] with state := s } d.quay (d.setState i s) := by
  unfold Device.setState
  dsimp only
  split
  · rw [removeTend_eq]
    exact ⟨rfl, rfl, rfl⟩
  · exact ⟨rfl, rfl, rfl⟩

theorem setResync_written (d : Device) (i : LineId) :
    LineWritten d i { d.lines[i] with resync := true } d.quay (d.setResync i) := ⟨rfl, rfl, rfl⟩

theorem resyncUnlessFault_written (d : Device) (i : LineId) :
    LineWritten d i d.lines[i].marked d.quay (d.resyncUnlessFault i) := by
  unfold Device.resyncUnlessFault LineRecord.marked
  split
  · exact LineWritten.refl d i
  · exact setResync_written d i

theorem restoreState_eq (d : Device) (i : LineId) (prior : LineState) :
    d.restoreState i prior = d.setState i (d.lines[i].restored prior) := by
  unfold Device.restoreState LineRecord.restored
  dsimp only
  split <;> rfl

/-- R10, for a line that enters FAULT from another state. -/
theorem putFault_written (d : Device) (i : LineId) (c : FaultCause) (h : d.lines[i].state ≠ .fault) :
    LineWritten d i { d.lines[i] with state := .fault, cause := some c } (d.queueEvent (.lineFault i c)).quay
      (d.putFault i c) := by
  obtain ⟨hlines, hbridge, hquay⟩ := setState_written d i .fault
  unfold Device.putFault
  rw [if_neg fun hf => h hf.1]
  refine ⟨?_, hbridge, queueEvent_quay_congr hquay _⟩
  simp [hlines]

/-! #### The report of a result, and the end of a slot -/

/-- R13 to R16. -/
theorem applyResult_written (d : Device) (c : SlotCommand) (b : SlotState) (res : SlotResult) :
    LineWritten d c.line (d.lines[c.line].afterResult c b res) (d.quayAfterResult c res) (d.applyResult c b res) := by
  unfold Device.applyResult LineRecord.afterResult Device.quayAfterResult
  cases res <;> simp only [SlotResult.isFailure, Bool.false_eq_true, false_and, true_and, if_false]
  case done =>
    split
    · exact setState_written d _ _
    · exact resyncUnlessFault_written d _
  case failed | actionTimeout | refused | noResponse =>
    split
    next htransit => exact putFault_written d _ _ fun h => c.verb.transitional_ne_fault (htransit.symm.trans h)
    next => exact resyncUnlessFault_written d _
  case aborted | preempted =>
    split
    · split
      · rw [restoreState_eq]
        exact setState_written d _ _
      · exact LineWritten.refl d _
    · exact setResync_written d _

/-- The slot as its end leaves it, its discard timer not yet started (R75). -/
def Slot.ended (x : Slot) (res : SlotResult) : Slot :=
  { x with state := .complete, result := some res, actionTimer := none }

/-- The part in which the Line Table finds the result of slot `k` (R75). -/
def Device.reported (d : Device) (k : SlotId) (res : SlotResult) : Device :=
  let d' := (d.setSlot k (d.bridge.slots[k].ended res)).detach (.confirmed k)
  { d' with bridge := { d'.bridge with retries := d'.bridge.retries.erase k } }

theorem reported_lines (d : Device) (k : SlotId) (res : SlotResult) : (d.reported k res).lines = d.lines := by
  unfold Device.reported
  rw [detach_eq]
  rfl

theorem reported_quay (d : Device) (k : SlotId) (res : SlotResult) : (d.reported k res).quay = d.quay := by
  unfold Device.reported
  rw [detach_eq]
  rfl

theorem reported_slots (d : Device) (k : SlotId) (res : SlotResult) :
    (d.reported k res).bridge.slots = put d.bridge.slots k (d.bridge.slots[k].ended res) := by
  unfold Device.reported
  rw [detach_eq]
  rfl

theorem quayAfterResult_reported (d : Device) (k : SlotId) (c : SlotCommand) (res : SlotResult) :
    (d.reported k res).quayAfterResult c res = d.quayAfterResult c res := by
  unfold Device.quayAfterResult
  rw [reported_lines, queueEvent_quay_congr (reported_quay d k res), reported_quay]

/-- The settings of the link stand (R75 reads the discard time after the report). -/
theorem quayAfterResult_link (d : Device) (c : SlotCommand) (res : SlotResult) :
    (d.quayAfterResult c res).link = d.quay.link := by
  unfold Device.quayAfterResult
  split
  · exact (queueEvent_kept d _).link
  · rfl

section EndOfLiveSlot

variable {d : Device} {k : SlotId} {c : SlotCommand}

/-- R75, in one equation. -/
theorem endSlot_of_live (hc : d.bridge.slots[k].command = some c) (hl : d.bridge.slots[k].live = true)
    (res : SlotResult) :
    d.endSlot k res =
      (((d.reported k res).applyResult c d.bridge.slots[k].state res).setSlot k
        { d.bridge.slots[k].ended res with discardTimer := some (d.quay.link.discard * 1000) }).syncFollowUp
          c.line := by
  have hlink : ((d.reported k res).applyResult c d.bridge.slots[k].state res).quay.link = d.quay.link := by
    rw [(applyResult_written _ _ _ _).quay, quayAfterResult_link, reported_quay]
  rw [← hlink]
  unfold Device.endSlot
  dsimp only
  split
  next hnone => rw [hc] at hnone; cases hnone
  next c' hc' =>
    obtain rfl : c = c' := Option.some.inj (hc.symm.trans hc')
    rw [if_pos hl]
    rfl

theorem endSlot_lines (hc : d.bridge.slots[k].command = some c) (hl : d.bridge.slots[k].live = true)
    (res : SlotResult) :
    (d.endSlot k res).lines =
      put d.lines c.line (d.lines[c.line].afterResult c d.bridge.slots[k].state res) := by
  rw [endSlot_of_live hc hl]
  have h := (applyResult_written (d.reported k res) c d.bridge.slots[k].state res).lines
  rwa [reported_lines] at h

theorem endSlot_quay (hc : d.bridge.slots[k].command = some c) (hl : d.bridge.slots[k].live = true)
    (res : SlotResult) : (d.endSlot k res).quay = d.quayAfterResult c res := by
  rw [endSlot_of_live hc hl]
  have h := (applyResult_written (d.reported k res) c d.bridge.slots[k].state res).quay
  rwa [quayAfterResult_reported] at h

theorem endSlot_slots (hc : d.bridge.slots[k].command = some c) (hl : d.bridge.slots[k].live = true)
    (res : SlotResult) :
    (d.endSlot k res).bridge.slots = put d.bridge.slots k
      { d.bridge.slots[k].ended res with discardTimer := some (d.quay.link.discard * 1000) } := by
  rw [endSlot_of_live hc hl]
  have h := (applyResult_written (d.reported k res) c d.bridge.slots[k].state res).bridge
  show put ((d.reported k res).applyResult c d.bridge.slots[k].state res).bridge.slots k _ = _
  rw [h, reported_slots, put_put]

end EndOfLiveSlot

/-- Settles O20: the end of a live slot writes its line's record as `afterResult` gives it, result by result, and its
slot; each clause reads one of the three equations `endSlot_lines`, `endSlot_quay`, `endSlot_slots`. -/
theorem slotResultsActOnTheirLine : Obligations.SlotResultsActOnTheirLine := by
  unfold Obligations.SlotResultsActOnTheirLine
  intro d k c res hc hl r r' marked restored
  have hlines := endSlot_lines hc hl res
  have hquay := endSlot_quay hc hl res
  have hslots := endSlot_slots hc hl res
  have hr' : r' = r.afterResult c d.bridge.slots[k].state res := by
    show (d.endSlot k res).lines[c.line] = _
    rw [hlines, put_get_self]
  refine ⟨?done, ?failure, ?withdrawn, ?otherLines, ?slot, ?otherSlots⟩
  case done =>
    rintro rfl
    exact hr'
  case failure =>
    intro hres
    have hfail := res.isFailure_iff.mpr hres
    rw [r.afterResult_of_isFailure c _ hfail] at hr'
    unfold Device.quayAfterResult at hquay
    constructor
    · intro htransit
      exact ⟨hr'.trans (if_pos htransit), hquay.trans (if_pos ⟨hfail, htransit⟩)⟩
    · intro hother
      exact ⟨hr'.trans (if_neg hother), hquay.trans (if_neg fun h => hother h.2)⟩
  case withdrawn =>
    intro hres
    rw [r.afterResult_of_withdrawn c _ hres] at hr'
    exact ⟨fun hqueued => hr'.trans (if_pos hqueued), fun hsent => hr'.trans (if_neg hsent)⟩
  case otherLines =>
    intro j hj
    rw [hlines, put_get_ne _ _ hj]
  case slot =>
    rw [hslots, put_get_self]
    rfl
  case otherSlots =>
    intro j hj
    rw [hslots, put_get_ne _ _ hj]

end Sys2Proof.Machine

/-! ### The bands and the candidate of a sample (O56) -/

namespace Sys2Proof.Machine

/-- R36: a filtered value alone never gives CRITICAL, which only the critical run enters (R39). -/
theorem LineConfig.rawBand_ne_critical (c : LineConfig) (x : Nat) : c.rawBand x ≠ .critical := by
  unfold LineConfig.rawBand
  split_ifs <;> decide

theorem Band.rank_lt_critical {b : Band} (h : b ≠ .critical) : b.rank < Band.critical.rank := by
  cases b
  case critical => exact absurd rfl h
  all_goals decide

theorem LineConfig.rawBand_rank_lt (c : LineConfig) (x : Nat) : (c.rawBand x).rank < Band.critical.rank :=
  Band.rank_lt_critical (c.rawBand_ne_critical x)

section RawBand
variable {c : LineConfig} {x : Nat}

theorem LineConfig.rawBand_slack (h : x < c.slack) : c.rawBand x = .slack := if_pos h

theorem LineConfig.rawBand_low (h : c.slack ≤ x) (h' : x < c.low) : c.rawBand x = .low := by
  rw [LineConfig.rawBand, if_neg h.not_gt, if_pos h']

theorem LineConfig.rawBand_working (h : c.slack ≤ x) (h' : c.low ≤ x) (h'' : x ≤ c.high) : c.rawBand x = .working := by
  rw [LineConfig.rawBand, if_neg h.not_gt, if_neg h'.not_gt, if_pos h'']

theorem LineConfig.rawBand_high (h : c.slack ≤ x) (h' : c.low ≤ x) (h'' : c.high < x) (ha : x < c.alarm) :
    c.rawBand x = .high := by
  rw [LineConfig.rawBand, if_neg h.not_gt, if_neg h'.not_gt, if_neg h''.not_ge, if_pos ha]

theorem LineConfig.rawBand_alarm (h : c.slack ≤ x) (h' : c.low ≤ x) (h'' : c.high < x) (ha : c.alarm ≤ x) :
    c.rawBand x = .alarm := by
  rw [LineConfig.rawBand, if_neg h.not_gt, if_neg h'.not_gt, if_neg h''.not_ge, if_neg ha.not_gt]

end RawBand

/-- R36 with limits that rise (R3): the five intervals cover every value, and on each the raw band is known. -/
theorem LineConfig.rawBand_iff (c : LineConfig) (x : Nat) (hsl : c.slack < c.low) (hlh : c.low < c.high)
    (hha : c.high < c.alarm) :
    (c.rawBand x = .slack ↔ x < c.slack) ∧ (c.rawBand x = .low ↔ c.slack ≤ x ∧ x < c.low) ∧
    (c.rawBand x = .working ↔ c.low ≤ x ∧ x ≤ c.high) ∧ (c.rawBand x = .high ↔ c.high < x ∧ x < c.alarm) ∧
    (c.rawBand x = .alarm ↔ c.alarm ≤ x) := by
  have hcases : x < c.slack ∨ (c.slack ≤ x ∧ x < c.low) ∨ (c.low ≤ x ∧ x ≤ c.high) ∨ (c.high < x ∧ x < c.alarm) ∨
      c.alarm ≤ x := by omega
  obtain h | ⟨h, h'⟩ | ⟨h, h'⟩ | ⟨h, h'⟩ | h := hcases
  · rw [rawBand_slack h]
    simp; omega
  · rw [rawBand_low h h']
    simp; omega
  · rw [rawBand_working (by omega) h h']
    simp; omega
  · rw [rawBand_high (by omega) (by omega) h h']
    simp; omega
  · rw [rawBand_alarm (by omega) (by omega) (by omega) h]
    simp; omega

section Candidate
variable {r : LineRecord} {f : Nat}

/-- R41, a raw band above the band. -/
theorem LineRecord.candidateFor_of_above (h : r.band.rank < (r.config.rawBand f).rank) :
    r.candidateFor f = r.config.rawBand f := if_pos h

/-- R41, a raw band below the band: the hysteresis is added before the band gives way. -/
theorem LineRecord.candidateFor_of_below (h : (r.config.rawBand f).rank < r.band.rank) :
    r.candidateFor f =
      if (r.config.rawBand (min 65535 (f + r.config.hyst))).rank < r.band.rank
      then r.config.rawBand (min 65535 (f + r.config.hyst)) else r.band := by
  rw [LineRecord.candidateFor, if_neg h.not_gt, if_pos h]

/-- R41, the raw band is the band. -/
theorem LineRecord.candidateFor_of_same (h : r.config.rawBand f = r.band) : r.candidateFor f = r.band := by
  simp [LineRecord.candidateFor, h]

/-- R41 from CRITICAL: every raw band lies below, with the hysteresis too. -/
theorem LineRecord.candidateFor_of_critical (h : r.band = .critical) :
    r.candidateFor f = r.config.rawBand (min 65535 (f + r.config.hyst)) := by
  have hbelow (x : Nat) : (r.config.rawBand x).rank < r.band.rank := h ▸ r.config.rawBand_rank_lt x
  rw [candidateFor_of_below (hbelow f), if_pos (hbelow _)]

end Candidate

/-- Settles O56, from the intervals of the raw band and the cases of R41. -/
theorem candidateBands : Obligations.CandidateBands := by
  unfold Obligations.CandidateBands
  refine ⟨by decide, by decide, by decide, by decide, by decide, LineConfig.rawBand_iff, LineConfig.rawBand_ne_critical,
    fun r f => ⟨LineRecord.candidateFor_of_above, LineRecord.candidateFor_of_below, LineRecord.candidateFor_of_same,
      fun hcrit => ?_⟩⟩
  have hcand := LineRecord.candidateFor_of_critical (f := f) hcrit
  exact ⟨hcand, hcand ▸ r.config.rawBand_rank_lt _⟩

end Sys2Proof.Machine

/-! ### A sample of a line (O55)

Conversion, filter and rail test are arithmetic; the stages of a sample are given by one equation for each of their
cases, and `SameMeasure` says that what follows the first three stages leaves their results in the record. -/

namespace Sys2Proof.Machine

/-! #### Conversion, filter and critical run -/

/-- R32. -/
theorem LineConfig.tension_of_le {c : LineConfig} {raw : Nat} (h : raw ≤ c.zero) : c.tension raw = 0 := if_pos h

/-- R32. -/
theorem LineConfig.tension_of_lt {c : LineConfig} {raw : Nat} (h : c.zero < raw) :
    c.tension raw = (raw - c.zero) * c.span / 256 := if_neg h.not_ge

/-- R32: 4095 × 4095 / 256, rounded down, is 65504. -/
theorem LineConfig.tension_le {c : LineConfig} {raw : Nat} (hraw : raw ≤ 4095) (hspan : c.span ≤ 4095) :
    c.tension raw ≤ 65504 := by
  obtain h | h := le_or_gt raw c.zero
  · rw [tension_of_le h]
    exact Nat.zero_le _
  · have hprod : (raw - c.zero) * c.span ≤ 4095 * 4095 := Nat.mul_le_mul (by omega) hspan
    rw [tension_of_lt h]
    omega

theorem LineConfig.tension_largest {c : LineConfig} (hzero : c.zero = 0) (hspan : c.span = 4095) :
    c.tension 4095 = 65504 := by
  rw [tension_of_lt (by omega), hzero, hspan]

section Filter
variable {k t f : Nat}

theorem filterStep_of_le (h : f ≤ t) : filterStep k t f = f + (t - f) / 2 ^ k := if_pos h

theorem filterStep_of_gt (h : t < f) : filterStep k t f = f - (f - t) / 2 ^ k := if_neg h.not_ge

/-- R34 in signed numbers: division of the difference that rounds toward zero. -/
theorem filterStep_eq_tdiv (k t f : Nat) :
    (filterStep k t f : Int) = (f : Int) + ((t : Int) - f).tdiv (2 ^ k) := by
  obtain h | h := le_or_gt f t
  · have hdiff : (t : Int) - f = ((t - f : Nat) : Int) := by omega
    rw [filterStep_of_le h, hdiff, Int.tdiv_eq_ediv_of_nonneg (Int.natCast_nonneg _)]
    push_cast
    rfl
  · have hdiff : (t : Int) - f = -((f - t : Nat) : Int) := by omega
    have hquot : (f - t) / 2 ^ k ≤ f := (Nat.div_le_self _ _).trans (Nat.sub_le f t)
    rw [filterStep_of_gt h, hdiff, Int.neg_tdiv, Int.tdiv_eq_ediv_of_nonneg (Int.natCast_nonneg _),
      Int.ofNat_sub hquot]
    push_cast
    rfl

theorem filterStep_between (k t f : Nat) : min f t ≤ filterStep k t f ∧ filterStep k t f ≤ max f t := by
  obtain h | h := le_or_gt f t
  · have hquot := Nat.div_le_self (t - f) (2 ^ k)
    rw [filterStep_of_le h]
    generalize (t - f) / 2 ^ k = q at hquot ⊢
    omega
  · have hquot := Nat.div_le_self (f - t) (2 ^ k)
    rw [filterStep_of_gt h]
    generalize (f - t) / 2 ^ k = q at hquot ⊢
    omega

theorem filterStep_zero_shift (t f : Nat) : filterStep 0 t f = t := by
  obtain h | h := le_or_gt f t
  · rw [filterStep_of_le h, pow_zero, Nat.div_one]
    omega
  · rw [filterStep_of_gt h, pow_zero, Nat.div_one]
    omega

/-- R34: a difference below 2^k rounds to no move. -/
theorem filterStep_of_near (h : f < t + 2 ^ k) (h' : t < f + 2 ^ k) : filterStep k t f = f := by
  obtain hle | hlt := le_or_gt f t
  · rw [filterStep_of_le hle, Nat.div_eq_of_lt (by omega), Nat.add_zero]
  · rw [filterStep_of_gt hlt, Nat.div_eq_of_lt (by omega), Nat.sub_zero]

end Filter

/-- R38. -/
theorem LineRecord.nextRun_of_le {r : LineRecord} {t : Nat} (h : r.config.critical ≤ t) :
    r.nextRun t = min r.config.criticalCount (r.criticalRun + 1) := if_pos h

/-- R38. -/
theorem LineRecord.nextRun_of_lt {r : LineRecord} {t : Nat} (h : t < r.config.critical) : r.nextRun t = 0 :=
  if_neg h.not_ge

/-! #### One line record -/

theorem setLine_line_self (d : Device) (i : LineId) (r : LineRecord) : (d.setLine i r).lines[i] = r :=
  put_get_self _ _ _

theorem setLine_updLine (d : Device) (i : LineId) (r : LineRecord) (f : LineRecord → LineRecord) :
    (d.setLine i r).updLine i f = d.setLine i (f r) := by
  rw [updLine_eq, setLine_line_self, setLine_setLine]

/-- Eligibility reads of a line its binding only. -/
theorem setLine_eligible {d : Device} {i : LineId} {r : LineRecord} (h : r.binding = d.lines[i].binding) :
    (d.setLine i r).eligible i = d.eligible i := by
  unfold Device.eligible
  rw [setLine_line_self, h]
  rfl

/-! #### What follows the first three stages leaves their results alone -/

/-- What stages 1 to 3 of a sample write (R32 to R34, R38). -/
def LineRecord.measured (r : LineRecord) : Nat × Nat × Bool × Nat := (r.tension, r.filtered, r.seeded, r.criticalRun)

/-- Line `i` holds the same results of a sample's first stages. -/
def SameMeasure (i : LineId) (d d' : Device) : Prop := d'.lines[i].measured = d.lines[i].measured

theorem SameMeasure.refl (i : LineId) (d : Device) : SameMeasure i d d := rfl

theorem SameMeasure.trans {i : LineId} {a b c : Device} (h : SameMeasure i a b) (k : SameMeasure i b c) :
    SameMeasure i a c := Eq.trans k h

theorem SameMeasure.ite {i : LineId} {c : Prop} [Decidable c] {d a b : Device} (h : SameMeasure i d a)
    (k : SameMeasure i d b) : SameMeasure i d (if c then a else b) := by
  split <;> assumption

/-- No work on lines touches them. -/
theorem Work.sameMeasure {d d' : Device} (h : Work d d') (i : LineId) : SameMeasure i d d' := by
  have hmeasured : d'.lines[i].unworked.measured = d.lines[i].unworked.measured := by rw [h.lines i]
  exact hmeasured

theorem updLine_sameMeasure (d : Device) (i : LineId) {f : LineRecord → LineRecord}
    (h : (f d.lines[i]).measured = d.lines[i].measured) : SameMeasure i d (d.updLine i f) := by
  rw [SameMeasure, updLine_eq, setLine_line_self, h]

theorem changeBand_sameMeasure (d : Device) (i : LineId) (b : Band) : SameMeasure i d (d.changeBand i b) :=
  (updLine_sameMeasure d i rfl).trans ((queueEvent_work _ _).sameMeasure i)

theorem endTending_work (d : Device) (i : LineId) : Work d (d.endTending i) :=
  Work.ite (setState_work _ _ _) (Work.refl d)

theorem enterCritical_sameMeasure (d : Device) (i : LineId) : SameMeasure i d (d.enterCritical i) :=
  (changeBand_sameMeasure d i .critical).trans
    ((((queueEvent_work _ _).trans (endTending_work _ i)).trans (takeConditions_work _)).sameMeasure i)

theorem candidateStage_sameMeasure (d : Device) (i : LineId) : SameMeasure i d (d.candidateStage i) := by
  unfold Device.candidateStage
  dsimp only
  split
  · exact SameMeasure.ite ((changeBand_sameMeasure d i _).trans ((takeConditions_work _).sameMeasure i))
      (updLine_sameMeasure d i rfl)
  · exact updLine_sameMeasure d i rfl

theorem bandStages_sameMeasure (d : Device) (i : LineId) : SameMeasure i d (d.bandStages i) :=
  SameMeasure.ite (enterCritical_sameMeasure d i)
    (SameMeasure.ite (updLine_sameMeasure d i rfl) (candidateStage_sameMeasure d i))

theorem refuseStep_sameMeasure (d : Device) (i : LineId) (dir : TendDirection) (n : Nat) :
    SameMeasure i d (d.refuseStep i dir n) :=
  SameMeasure.ite (SameMeasure.refl i d)
    (((queueEvent_work d _).sameMeasure i).trans (updLine_sameMeasure _ i rfl))

theorem tendDecision_sameMeasure (d : Device) (i : LineId) : SameMeasure i d (d.tendDecision i) := by
  unfold Device.tendDecision
  dsimp only
  split
  · exact SameMeasure.refl i d
  · exact SameMeasure.ite (SameMeasure.refl i d) (refuseStep_sameMeasure d i _ _)

theorem offerSample_sameMeasure (d : Device) (i : LineId) (rep : Report) (changed : Bool) :
    SameMeasure i d (d.offerSample i rep changed) := by
  have hcount (n : Nat) : SameMeasure i d (d.updLine i fun r => { r with telemetryCount := n }) :=
    updLine_sameMeasure d i rfl
  exact SameMeasure.ite (hcount 0) (SameMeasure.ite (hcount 0) (SameMeasure.ite (hcount 0) (hcount _)))

theorem handOver_sameMeasure (d : Device) (i : LineId) (rep : Report) (changed : Bool) :
    SameMeasure i d (d.handOver i rep changed) := by
  have hflag : SameMeasure i d (if changed then d.updLine i fun r => { r with lengthLimit := false } else d) :=
    SameMeasure.ite (updLine_sameMeasure d i rfl) (SameMeasure.refl i d)
  exact (SameMeasure.ite (hflag.trans (tendDecision_sameMeasure _ i)) hflag).trans (offerSample_sameMeasure _ i rep _)

/-! #### An evaluated sample -/

/-- The record after stages 1 to 3 of a sample (R32 to R34, R38). -/
def LineRecord.withSample (r : LineRecord) (raw : Nat) : LineRecord :=
  { r with tension := r.config.tension raw, filtered := r.nextFiltered (r.config.tension raw), seeded := true
           criticalRun := r.nextRun (r.config.tension raw) }

/-- The part when stages 1 to 3 of a sample have been taken. -/
def Device.sampled (d : Device) (i : LineId) (rep : Report) : Device := d.setLine i (d.lines[i].withSample rep.raw)

theorem sampled_line_self (d : Device) (i : LineId) (rep : Report) :
    (d.sampled i rep).lines[i] = d.lines[i].withSample rep.raw := setLine_line_self _ _ _

/-- R27: the hand-over is told whether stages 4 and 5 changed the band. -/
theorem evaluate_eq (d : Device) (i : LineId) (rep : Report) :
    d.evaluate i rep = ((d.sampled i rep).bandStages i).handOver i rep
      (decide (d.lines[i].band ≠ ((d.sampled i rep).bandStages i).lines[i].band)) := by
  have hband : (d.sampled i rep).lines[i].band = d.lines[i].band := by
    rw [sampled_line_self]
    rfl
  simp only [← hband, ne_eq, decide_not]
  rfl

theorem evaluate_measured (d : Device) (i : LineId) (rep : Report) :
    (d.evaluate i rep).lines[i].measured = (d.lines[i].withSample rep.raw).measured := by
  have hkept : SameMeasure i (d.sampled i rep) (d.evaluate i rep) := by
    rw [evaluate_eq]
    exact (bandStages_sameMeasure _ i).trans (handOver_sameMeasure _ i rep _)
  exact Eq.trans hkept (congrArg LineRecord.measured (sampled_line_self d i rep))

/-! #### The rail test (R28 to R31) -/

theorem matchingCheck_iff (cable : CableCheck) (kind : SampleKind) : matchingCheck cable kind = true ↔
    (cable = .high ∧ kind = .checkHigh) ∨ (cable = .low ∧ kind = .checkLow) := by
  cases cable <;> cases kind <;> decide

theorem atRail_iff (cable : CableCheck) (raw : Nat) : atRail cable raw = true ↔
    (cable = .high ∧ 4088 ≤ raw) ∨ (cable = .low ∧ raw ≤ 7) := by
  cases cable <;> simp [atRail]

/-- A report that ends tending locks a TENDING line (R21). -/
theorem endTending_of_state {d : Device} {i : LineId} {s : LineState} (h : d.lines[i].state = s) :
    d.endTending i = if s = .tending then d.setState i .locked else d := by
  rw [← h]
  rfl

section RailTest
variable {d : Device} {i : LineId} {rep : Report} {r : LineRecord}

/-- R29, R30: a matching check sample at the rail. -/
theorem takeSample_at_rail (hr : { d.lines[i] with lastRaw := some rep.raw } = r)
    (hmatch : matchingCheck r.config.cable rep.kind = true) (hrail : atRail r.config.cable rep.raw = true) :
    (r.sensor = .ok → d.takeSample i rep = d.setLine i { r with sensor := .suspect }) ∧
    (r.sensor = .suspect → d.takeSample i rep =
      let d' := (d.setLine i { r with sensor := .open_ }).queueEvent (.sensorOpen i r.config.cable rep.raw)
      if r.state = .tending then d'.setState i .locked else d') ∧
    (r.sensor = .open_ → d.takeSample i rep = d.setLine i r) := by
  unfold Device.takeSample
  simp only [updLine_eq, hr, setLine_line_self, hmatch, hrail, if_true]
  refine ⟨fun hs => ?ok, fun hs => ?suspect, fun hs => ?open_⟩ <;> simp only [hs]
  case ok => exact setLine_setLine _ _ _ _
  case suspect =>
    unfold Device.openSensor
    simp only [setLine_updLine, setLine_line_self]
    refine endTending_of_state ?_
    rw [queueEvent_lines, setLine_line_self]

/-- R29, R31: a matching check sample off the rail is evaluated, and the mark is OK. -/
theorem takeSample_off_rail (hr : { d.lines[i] with lastRaw := some rep.raw } = r)
    (hmatch : matchingCheck r.config.cable rep.kind = true) (hrail : atRail r.config.cable rep.raw = false) :
    (r.sensor = .ok → d.takeSample i rep = (d.setLine i r).evaluate i rep) ∧
    (r.sensor = .suspect → d.takeSample i rep = (d.setLine i { r with sensor := .ok }).evaluate i rep) ∧
    (r.sensor = .open_ → d.takeSample i rep =
      (((d.setLine i r).queueEvent (.sensorRestored i rep.raw)).setLine i
        { r with sensor := .ok, seeded := false }).evaluate i rep) := by
  unfold Device.takeSample Device.restoreSensor
  simp only [updLine_eq, hr, setLine_line_self, hmatch, hrail, if_true, Bool.false_eq_true, if_false, queueEvent_lines]
  refine ⟨fun hs => ?ok, fun hs => ?suspect, fun hs => ?open_⟩ <;> simp only [hs, setLine_setLine]

/-- R29: any other sample is evaluated unless the mark is OPEN. -/
theorem takeSample_no_check (hr : { d.lines[i] with lastRaw := some rep.raw } = r)
    (hmatch : matchingCheck r.config.cable rep.kind = false) :
    (r.sensor = .ok ∨ r.sensor = .suspect → d.takeSample i rep = (d.setLine i r).evaluate i rep) ∧
    (r.sensor = .open_ → d.takeSample i rep = d.setLine i r) := by
  unfold Device.takeSample
  simp only [updLine_eq, hr, setLine_line_self, hmatch, Bool.false_eq_true, if_false]
  refine ⟨?evaluated, fun hs => ?open_⟩
  case evaluated => rintro (hs | hs) <;> simp only [hs]
  case open_ => simp only [hs]

end RailTest

/-! #### Stages 4 and 5 (R38 to R43) -/

/-- R42: a candidate that is the band ends the persistence. -/
theorem LineRecord.persist_band (r : LineRecord) : r.persist r.band = (none, 0) := if_pos rfl

/-- R42: another candidate counts its samples in a row. -/
theorem LineRecord.persist_of_ne {r : LineRecord} {c : Band} (h : c ≠ r.band) :
    r.persist c = (some c, if r.candidate = some c then r.persistCount + 1 else 1) := by
  rw [LineRecord.persist, if_neg h]
  split <;> rfl

section BandStages
variable {d : Device} {i : LineId}

/-- R39: the run's last sample enters CRITICAL from another band. -/
theorem bandStages_enters (hrun : d.lines[i].criticalRun = d.lines[i].config.criticalCount)
    (hband : d.lines[i].band ≠ .critical) : d.bandStages i = d.enterCritical i := if_pos ⟨hrun, hband⟩

/-- R40: in CRITICAL, a full run or a tension at or above C skips the candidate. -/
theorem bandStages_skips (hband : d.lines[i].band = .critical)
    (h : d.lines[i].criticalRun = d.lines[i].config.criticalCount ∨
      d.lines[i].config.critical ≤ d.lines[i].tension) :
    d.bandStages i = d.setLine i { d.lines[i] with candidate := none, persistCount := 0 } := by
  rw [Device.bandStages, if_neg fun hc => hc.2 hband, if_pos (h.imp_right fun ht => ⟨hband, ht⟩)]
  rfl

theorem bandStages_goes_on (hrun : d.lines[i].criticalRun ≠ d.lines[i].config.criticalCount)
    (h : d.lines[i].band ≠ .critical ∨ d.lines[i].tension < d.lines[i].config.critical) :
    d.bandStages i = d.candidateStage i := by
  have hskip : ¬(d.lines[i].criticalRun = d.lines[i].config.criticalCount ∨
      (d.lines[i].band = .critical ∧ d.lines[i].config.critical ≤ d.lines[i].tension)) := by
    rintro (hr | ⟨hb, ht⟩)
    · exact hrun hr
    · exact h.elim (fun hne => hne hb) fun hlt => hlt.not_ge ht
  rw [Device.bandStages, if_neg fun hc => hrun hc.1, if_neg hskip]

/-- R39: the events of the entry, then the end of tending (R21), then the conditions (R88). -/
theorem enterCritical_eq (d : Device) (i : LineId) : d.enterCritical i =
    (let d' := (d.changeBand i .critical).queueEvent
      (.critical i d.lines[i].tension d.lines[i].config.critical)
     (if d.lines[i].state = .tending then d'.setState i .locked else d').takeConditions) := by
  have hline : (d.changeBand i .critical).lines[i] =
      { d.lines[i] with band := .critical, candidate := none, persistCount := 0 } := setLine_line_self _ _ _
  unfold Device.enterCritical
  simp only [hline]
  refine congrArg Device.takeConditions (endTending_of_state ?_)
  rw [queueEvent_lines, hline]

theorem candidateStage_of_band (h : d.lines[i].candidateFor d.lines[i].filtered = d.lines[i].band) :
    d.candidateStage i = d.setLine i { d.lines[i] with candidate := none, persistCount := 0 } := by
  unfold Device.candidateStage
  simp only [h, LineRecord.persist_band]
  rfl

/-- R42: a candidate other than the band becomes the band with its P-th sample in a row. -/
theorem candidateStage_of_ne {c : Band} {n : Nat} (hc : d.lines[i].candidateFor d.lines[i].filtered = c)
    (hn : (if d.lines[i].candidate = some c then d.lines[i].persistCount + 1 else 1) = n)
    (hne : c ≠ d.lines[i].band) :
    d.candidateStage i =
      if d.lines[i].config.persistence ≤ n then (d.changeBand i c).takeConditions
      else d.setLine i { d.lines[i] with candidate := some c, persistCount := n } := by
  unfold Device.candidateStage
  simp only [hc, LineRecord.persist_of_ne hne, hn]
  rfl

end BandStages

/-! #### The hand-over (R44) -/

/-- R44: the length-limit flag is cleared at a band change; then the tend decision of an eligible TENDING line, and the
offer. -/
theorem handOver_eq (d : Device) (i : LineId) (rep : Report) (changed : Bool) :
    let d' := if changed then d.setLine i { d.lines[i] with lengthLimit := false } else d
    d.handOver i rep changed =
      (if d.lines[i].state = .tending ∧ d.lines[i].owner = .quay ∧ d.eligible i = true then d'.tendDecision i
        else d').offerSample i rep changed := by
  unfold Device.handOver
  cases changed
  case false => rfl
  case true =>
    have helig := setLine_eligible (d := d) (i := i) (r := { d.lines[i] with lengthLimit := false }) rfl
    simp only [updLine_eq, if_true, setLine_line_self, helig]

/-- Settles O55: the arithmetic of stages 1 to 3 and that an evaluated sample keeps it, the rail test mark by mark, and the
cases of stages 4 to 6. -/
theorem tensionOfASample : Obligations.TensionOfASample := by
  unfold Obligations.TensionOfASample
  refine ⟨fun _ _ => LineConfig.tension_of_le, fun _ _ => LineConfig.tension_of_lt, fun _ _ => LineConfig.tension_le,
    fun _ => LineConfig.tension_largest, filterStep_eq_tdiv, filterStep_between, filterStep_zero_shift,
    fun _ _ _ => filterStep_of_near, fun _ _ => LineRecord.nextRun_of_le, fun _ _ => LineRecord.nextRun_of_lt,
    ?record, ?rail, evaluate_eq, ?bands, ?handOver⟩
  case record =>
    intro d i rep r r'
    obtain ⟨htension, hfiltered, hseeded, hrun⟩ :
        r'.tension = _ ∧ r'.filtered = _ ∧ r'.seeded = _ ∧ r'.criticalRun = _ := by
      simpa only [LineRecord.measured, Prod.mk.injEq] using evaluate_measured d i rep
    exact ⟨htension, hseeded, hfiltered, hrun⟩
  case rail =>
    intro d i rep r d' marked matching rail
    refine ⟨fun hmatch hrail => ?_, fun hmatch hrail => ?_, fun hmatch => ?_⟩
    · exact takeSample_at_rail rfl ((matchingCheck_iff _ _).mpr hmatch) ((atRail_iff _ _).mpr hrail)
    · exact takeSample_off_rail rfl ((matchingCheck_iff _ _).mpr hmatch) (eq_false_of_ne_true (mt (atRail_iff _ _).mp hrail))
    · exact takeSample_no_check rfl (eq_false_of_ne_true (mt (matchingCheck_iff _ _).mp hmatch))
  case bands =>
    intro d i r plain entered
    refine ⟨fun hrun hband => ?_, fun hrun hband => bandStages_skips hband (.inl hrun),
      fun hband ht => bandStages_skips hband (.inr ht), fun hrun h => ?_⟩
    · exact (bandStages_enters hrun hband).trans (enterCritical_eq d i)
    · intro c n
      rw [bandStages_goes_on hrun h]
      refine ⟨candidateStage_of_band, fun hne hlt => ?_, fun hne hle => ?_⟩
      · exact (candidateStage_of_ne rfl rfl hne).trans (if_neg hlt.not_ge)
      · exact (candidateStage_of_ne rfl rfl hne).trans (if_pos hle)
  case handOver =>
    intro d i rep changed d' r
    refine ⟨fun hstate howner helig => ?_, fun hnot => ?_⟩
    · rw [handOver_eq, if_pos ⟨hstate, howner, helig⟩]
    · have hno : ¬(r.state = .tending ∧ r.owner = .quay ∧ d.eligible i = true) := by
        rintro ⟨hs, ho, he⟩
        obtain h | h | h := hnot
        · exact h hs
        · exact h ho
        · exact Bool.false_ne_true (h.symm.trans he)
      rw [handOver_eq, if_neg hno]

end Sys2Proof.Machine

/-! ### The event queue (O7)

One equation for each outcome of an arrival (R170), one for each transmitter the arbiter can find with an event at the
head (R169), and the severity of a band change by the band it enters (R171). -/

namespace Sys2Proof.Machine

/-! #### An arrival (R170) -/

section Arrival
variable {q before after : List Event} {overrun : Bool} {e old : Event}

theorem enterEvent_of_lt (h : q.length < 16) : enterEvent q overrun e = (q ++ [e], overrun) := if_pos h

theorem enterEvent_of_full (h : q.length = 16) : enterEvent q overrun e =
    if e.severity = .alarm then
      if q.any fun x => decide (x.severity ≠ .alarm) then
        (q.eraseP (fun x => decide (x.severity ≠ .alarm)) ++ [e], overrun)
      else (q, true)
    else (q, overrun) := if_neg h.not_lt

theorem enterEvent_of_not_alarm (h : q.length = 16) (he : e.severity ≠ .alarm) :
    enterEvent q overrun e = (q, overrun) := (enterEvent_of_full h).trans (if_neg he)

/-- The oldest event that is not ALARM, `old`, makes room: those before it are all ALARM. -/
theorem enterEvent_replaces_oldest (h : (before ++ old :: after).length = 16)
    (hbefore : ∀ x ∈ before, x.severity = .alarm) (hold : old.severity ≠ .alarm) (he : e.severity = .alarm) :
    enterEvent (before ++ old :: after) overrun e = (before ++ after ++ [e], overrun) := by
  have hany : ((before ++ old :: after).any fun x => decide (x.severity ≠ .alarm)) = true :=
    List.any_eq_true.mpr ⟨old, List.mem_append_cons_self, decide_eq_true hold⟩
  have herase : (before ++ old :: after).eraseP (fun x => decide (x.severity ≠ .alarm)) = before ++ after := by
    rw [List.eraseP_append_right _ fun x hx => by simp [hbefore x hx], List.eraseP_cons_of_pos]
    exact decide_eq_true hold
  rw [enterEvent_of_full h, if_pos he, if_pos hany, herase]

theorem enterEvent_of_all_alarm (h : q.length = 16) (hq : ∀ x ∈ q, x.severity = .alarm) (he : e.severity = .alarm) :
    enterEvent q overrun e = (q, true) := by
  have hnone : ¬(q.any fun x => decide (x.severity ≠ .alarm)) = true := by simpa using hq
  rw [enterEvent_of_full h, if_pos he, if_neg hnone]

/-- An arrival never clears the mark. -/
theorem enterEvent_keeps_mark (q : List Event) (e : Event) : (enterEvent q true e).2 = true := by
  unfold enterEvent
  split_ifs <;> rfl

end Arrival

/-! #### The arbiter on an event (R169) -/

theorem QuayPort.startNext_of_sending {q : QuayPort} (h : q.transmitter.isSome) : q.startNext = q := by
  obtain ⟨f, hf⟩ := Option.isSome_iff_exists.mp h
  unfold QuayPort.startNext
  simp only [hf]

/-- R169, R171: with no reply waiting the head of the event queue leaves, and takes the overrun mark with it. -/
theorem QuayPort.startNext_of_event {q : QuayPort} {e : Event} {es : List Event} (hidle : q.transmitter = none)
    (hreplies : q.replies = []) (hevents : q.events = e :: es) :
    q.startNext = { q with events := es, overrun := false, transmitter := some (.event e q.overrun) } := by
  unfold QuayPort.startNext
  simp only [hidle, hreplies, hevents]

/-- While a frame is being sent an event only enters its queue. -/
theorem queueEvent_of_sending {d : Device} (e : Event) (h : d.quay.transmitter.isSome) :
    d.queueEvent e = { d with quay := { d.quay with
      events := (enterEvent d.quay.events d.quay.overrun e).1,
      overrun := (enterEvent d.quay.events d.quay.overrun e).2 } } := by
  dsimp only [Device.queueEvent]
  rw [QuayPort.startNext_of_sending]
  exact h

/-! #### Severity (R171) -/

theorem severity_bandChange (i : LineId) (left entered : Band) (f t : Nat) :
    (Event.bandChange i left entered f t).severity =
      if entered = .high ∨ entered = .alarm ∨ entered = .critical then .warning else .info := by
  cases entered <;> rfl

/-- Settles O7: each clause on an arrival is the equation of its outcome, the bound is `enterEvent_length`, and the
severities are read kind by kind. -/
theorem eventQueuePolicy : Obligations.EventQueuePolicy := by
  unfold Obligations.EventQueuePolicy
  refine ⟨fun _ _ _ => enterEvent_of_lt, fun _ _ _ => enterEvent_of_not_alarm,
    fun _ _ _ _ _ => enterEvent_replaces_oldest, fun _ _ _ => enterEvent_of_all_alarm, ?bounds,
    fun _ => queueEvent_of_sending, fun _ _ _ => QuayPort.startNext_of_event, ?severity⟩
  case bounds =>
    intro q overrun e hq
    refine ⟨enterEvent_length q overrun e hq, ?_⟩
    rintro rfl
    exact enterEvent_keeps_mark q e
  case severity =>
    intro e
    cases e
    case bandChange i left entered f t => exact severity_bandChange i left entered f t
    all_goals rfl

end Sys2Proof.Machine

/-! ### The machine: totality, reset and ALM (O1, O2, O3, O5, O6)

Every command's meaning is the settling of some part (`exec_settles`): hence each answers a next state with the queue as it
stood, and each leaves ALM formed again. -/

namespace Sys2Proof.Machine

/-- Settles O1. -/
theorem stepRunsTheFrontCommand : Obligations.StepRunsTheFrontCommand := by
  unfold Obligations.StepRunsTheFrontCommand
  intro c rest s
  rfl

/-! #### Every command ends by settling -/

/-- The processing of a request ends by settling (log entry 7). -/
theorem run_settles (d : Device) (tag : Byte) (r : Request) : ∃ d' : Device, d.run tag r = d'.settle := by
  unfold Device.run
  dsimp only
  split
  · exact ⟨_, rfl⟩
  · exact ⟨_, rfl⟩

theorem serve_settles (tag : Byte) (r : Request) (d : Device) : ∃ d' : Device, Device.serve tag r d = d'.settle := by
  unfold Device.serve
  dsimp only
  split
  · exact run_settles _ tag r
  · exact ⟨_, rfl⟩

/-- A command of the host is the serving of a request; every other command's meaning settles by its definition. -/
theorem exec_settles (c : Instr) (s : State) : ∃ d : Device, exec c s = .next { s with dev := d.settle } := by
  obtain hnone | ⟨⟨tag, r⟩, hsome⟩ := Option.eq_none_or_eq_some (hostRequest c)
  case inl =>
    cases c <;> cases hnone
    all_goals exact ⟨_, rfl⟩
  case inr =>
    obtain ⟨d', hd'⟩ := serve_settles tag r s.dev
    exact ⟨d', by rw [exec_of_hostRequest c tag r s hsome, State.onDevice, hd']⟩

/-- Settles O2: a settled part with the queue of before. -/
theorem everyCommandAnswersANextState : Obligations.EveryCommandAnswersANextState := by
  unfold Obligations.EveryCommandAnswersANextState
  intro c s
  obtain ⟨d, hd⟩ := exec_settles c s
  exact ⟨_, hd, rfl⟩

/-! #### ALM (R101) -/

/-- ALM's two conditions read the lines and the trigger entries only. -/
theorem almCondition_congr {d d' : Device} (hl : d'.lines = d.lines) (he : d'.trig.entries = d.trig.entries) :
    d'.almCondition = d.almCondition := by
  unfold Device.almCondition
  rw [hl, he]

theorem reformAlm_almHolds (d : Device) : d.reformAlm.trig.alm = d.reformAlm.almCondition :=
  (almCondition_congr (d := d) (d' := d.reformAlm) rfl rfl).symm

theorem mem_all16 (i : Fin 16) : i ∈ all16 := by
  revert i
  decide

theorem mem_allEntries (e : EntryId) : e ∈ allEntries := by
  revert e
  decide

theorem LineRecord.inAlarm_iff (r : LineRecord) : r.inAlarm = true ↔ r.band = .alarm ∨ r.band = .critical := by
  simp [LineRecord.inAlarm]

theorem LineRecord.assigned_iff (r : LineRecord) : r.assigned = true ↔ r.binding ≠ none :=
  Option.isSome_iff_ne_none

theorem DeliveryStatus.ne_idle_iff (x : DeliveryStatus) : x ≠ .idle ↔ x = .pending ∨ x = .awaitingAck := by
  cases x <;> decide

/-- R101's two conditions. -/
theorem almCondition_iff (d : Device) : d.almCondition = true ↔
    (∃ i : LineId, d.lines[i].binding ≠ none ∧ (d.lines[i].band = .alarm ∨ d.lines[i].band = .critical)) ∨
    ∃ e : EntryId, d.trig.entries[e].action ≠ .report ∧
      (d.trig.entries[e].status = .pending ∨ d.trig.entries[e].status = .awaitingAck) := by
  simp only [Device.almCondition, Bool.or_eq_true, List.any_eq_true, Bool.and_eq_true, decide_eq_true_eq,
    LineRecord.inAlarm_iff, LineRecord.assigned_iff, DeliveryStatus.ne_idle_iff, mem_all16, mem_allEntries, true_and]

theorem tick_lines (d : Device) : d.tick.lines = d.lines := by
  simp only [Device.tick]

theorem tick_trig_entries (d : Device) : d.tick.trig.entries = d.trig.entries := by
  simp only [Device.tick]

theorem tick_trig_alm (d : Device) : d.tick.trig.alm = d.trig.alm := by
  simp only [Device.tick]

/-- What a step can do: settle some part, or let a millisecond pass. -/
theorem step_cases {s t : State} (h : step s = .next t) : (∃ d : Device, t.dev = d.settle) ∨ t.dev = s.dev.tick := by
  obtain ⟨dev, _ | ⟨c, rest⟩⟩ := s
  case nil => exact .inr (congrArg State.dev (Host.Outcome.next.inj h)).symm
  case cons =>
    obtain ⟨d, hd⟩ := exec_settles c { dev := dev, pending := rest }
    have ht := Host.Outcome.next.inj (hd.symm.trans h)
    exact .inl ⟨d, (congrArg State.dev ht).symm⟩

/-- Settles O3: a command re-forms ALM as its last work, and a millisecond touches neither condition. -/
theorem everyStepKeepsAlmRight : Obligations.EveryStepKeepsAlmRight := by
  unfold Obligations.EveryStepKeepsAlmRight
  refine ⟨fun s t hs hstep => ?step, fun s => ?conditions⟩
  case step =>
    unfold AlmHolds at hs ⊢
    obtain ⟨d, hd⟩ | htick := step_cases hstep
    · rw [hd]
      exact reformAlm_almHolds d.choose
    · rw [htick, tick_trig_alm, almCondition_congr (tick_lines s.dev) (tick_trig_entries s.dev), hs]
  case conditions =>
    rw [AlmHolds, ← almCondition_iff, Bool.eq_iff_iff]

/-! #### Reset -/

theorem replicate_get {α : Type} {n : Nat} (x : α) (i : Fin n) : (Vector.replicate n x)[i] = x :=
  Vector.getElem_replicate i.isLt

/-- Settles O5. -/
theorem invariantsHoldAtReset : Obligations.InvariantsHoldAtReset := by
  unfold Obligations.InvariantsHoldAtReset
  refine ⟨by unfold AlmHolds; decide, ?_, rfl⟩
  unfold QueuesWithin
  refine ⟨Nat.zero_le _, Nat.zero_le _, Nat.zero_le _, Nat.zero_le _, List.nodup_nil, List.nodup_nil, List.nodup_nil,
    fun r hr => absurd hr List.not_mem_nil, List.nodup_nil, Nat.zero_le _, fun x hx => absurd hx.symm (Option.some_ne_none x),
    fun st => ?_⟩
  exact le_of_eq_of_le (congrArg StationRecord.missed (replicate_get _ st)) (Nat.zero_le _)

/-- With its records as power-on leaves them the part asserts no ALM. -/
theorem powerOn_almCondition (pins : Vector Level 4) (n : Nat) :
    { Device.powerOn pins with freeCount := n }.almCondition = false :=
  (almCondition_congr (d := State.reset.dev) rfl rfl).trans (by decide)

/-- A bus that a reset has made FOREIGN is not free, and ALM is low: settling changes nothing. -/
theorem powerOn_settle (pins : Vector Level 4) (n : Nat) :
    { Device.powerOn pins with freeCount := n }.settle = { Device.powerOn pins with freeCount := n } := by
  have h : { Device.powerOn pins with freeCount := n }.choose = { Device.powerOn pins with freeCount := n } := rfl
  rw [Device.settle, h, Device.reformAlm, powerOn_almCondition]
  rfl

theorem powerOnReset_settle (d : Device) : d.powerOnReset.settle = d.powerOnReset := powerOn_settle _ _

/-- R86: each debounced level is its pin's. -/
theorem powerOn_input (pins : Vector Level 4) (n : InputId) :
    (Device.powerOn pins).trig.inputs[n] = { pin := pins[n], debounced := pins[n], stability := none } := by
  fin_cases n <;> rfl

/-- Settles O6: the table of power-on values, and POWER_ON_RESET as the power-on part with the pins of before. -/
theorem resetHoldsThePowerOnValues : Obligations.ResetHoldsThePowerOnValues := by
  unfold Obligations.ResetHoldsThePowerOnValues
  refine ⟨replicate_get _, replicate_get _, replicate_get _, rfl, rfl, rfl, rfl, replicate_get _, rfl, rfl,
    replicate_get _, replicate_get _, ?inputs, rfl, rfl, rfl, rfl, rfl, rfl, rfl, replicate_get _, replicate_get _, rfl,
    rfl, rfl, rfl, rfl, rfl, rfl, rfl, fun st => ⟨replicate_get _ st, replicate_get _ st⟩, rfl, rfl, rfl, rfl, rfl, rfl,
    rfl, replicate_get _, rfl, rfl, rfl, rfl, ?powerOnReset⟩
  case inputs =>
    intro n
    exact (powerOn_input _ n).trans (by rw [replicate_get])
  case powerOnReset =>
    intro s
    have hexec : exec .powerOnReset s = .next { s with dev := s.dev.powerOnReset } := by
      rw [← powerOnReset_settle s.dev]
      rfl
    refine ⟨_, hexec, rfl, rfl, rfl, rfl, rfl, rfl, rfl, rfl, rfl, rfl, fun n => (powerOn_input _ n).trans ?_, rfl⟩
    fin_cases n <;> rfl

end Sys2Proof.Machine

/-! ### The bounds of queues, lists and counts (O4)

The Laws say what each operation keeps of the Quay Port and the posted queue (`Kept`) and of the bounded lists
(`ListsKept`). `QueuesKept` is what the queues need of both; with it every command's meaning keeps the bounds
(`BoundsKept`), but for the three that are bounded by a check of their own: a posted command, a reply and a frame taken
in. -/

namespace Sys2Proof.Machine

/-- The bounds of the four queues (R162, R164, R170, R62). -/
structure QueuesKept (d d' : Device) : Prop where
  events : d.quay.events.length ≤ 16 → d'.quay.events.length ≤ 16
  replies : d'.quay.replies.length ≤ d.quay.replies.length
  rxBuffer : d'.quay.rxBuffer = d.quay.rxBuffer
  posted : d.bridge.posted.length ≤ 8 → d'.bridge.posted.length ≤ 8

theorem Kept.queues {d d' : Device} (h : Kept d d') : QueuesKept d d' :=
  ⟨h.quay.events, h.quay.replies, h.quay.rxBuffer, h.posted.trans⟩

/-- Nothing that the four bounds speak of has changed. -/
theorem QueuesKept.of_eq {d d' : Device} (he : d'.quay.events = d.quay.events) (hr : d'.quay.replies = d.quay.replies)
    (hx : d'.quay.rxBuffer = d.quay.rxBuffer) (hp : d'.bridge.posted = d.bridge.posted) : QueuesKept d d' :=
  ⟨fun h => he ▸ h, hr ▸ le_refl _, hx, fun h => hp ▸ h⟩

theorem QueuesKept.refl (d : Device) : QueuesKept d d := QueuesKept.of_eq rfl rfl rfl rfl

theorem QueuesKept.trans {a b c : Device} (h : QueuesKept a b) (k : QueuesKept b c) : QueuesKept a c where
  events x := k.events (h.events x)
  replies := k.replies.trans h.replies
  rxBuffer := k.rxBuffer.trans h.rxBuffer
  posted x := k.posted (h.posted x)

theorem QueuesKept.ite {c : Prop} [Decidable c] {d a b : Device} (h : QueuesKept d a) (k : QueuesKept d b) :
    QueuesKept d (if c then a else b) := by
  split <;> assumption

/-- An operation keeps every bound. -/
structure BoundsKept (d d' : Device) : Prop where
  queues : QueuesKept d d'
  lists : ListsKept d d'

theorem BoundsKept.refl (d : Device) : BoundsKept d d := ⟨QueuesKept.refl d, ListsKept.refl d⟩

theorem BoundsKept.trans {a b c : Device} (h : BoundsKept a b) (k : BoundsKept b c) : BoundsKept a c :=
  ⟨h.queues.trans k.queues, h.lists.trans k.lists⟩

theorem BoundsKept.ite {c : Prop} [Decidable c] {d a b : Device} (h : BoundsKept d a) (k : BoundsKept d b) :
    BoundsKept d (if c then a else b) := by
  split <;> assumption

theorem Kept.bounds {d d' : Device} (h : Kept d d') (k : ListsKept d d') : BoundsKept d d' := ⟨h.queues, k⟩

/-- Every bound, of the part alone. -/
def Device.within (d : Device) : Prop := QueuesWithin { dev := d }

theorem BoundsKept.within {d d' : Device} (h : BoundsKept d d') (hd : d.within) : d'.within := by
  obtain ⟨hevents, hreplies, hrx, hposted, htend, hpolls, hactions, hpending, hsource, hrun, hundo, hmissed⟩ := hd
  obtain ⟨hactions', hpending'⟩ := h.lists.actions ⟨hactions, hpending⟩
  obtain ⟨hrun', hundo'⟩ := h.lists.runs ⟨hrun, hundo⟩
  exact ⟨h.queues.events hevents, h.queues.replies.trans hreplies, h.queues.rxBuffer ▸ hrx, h.queues.posted hposted,
    h.lists.tend htend, h.lists.polls hpolls, hactions', hpending', h.lists.source hsource, hrun', hundo',
    h.lists.missed hmissed⟩

theorem settle_bounds (d : Device) : BoundsKept d d.settle := (settle_kept d).bounds (settle_lists d)

theorem takeConditions_bounds (d : Device) : BoundsKept d d.takeConditions :=
  (takeConditions_work d).kept.bounds (takeConditions_lists d)

theorem queueEvent_bounds (d : Device) (e : Event) : BoundsKept d (d.queueEvent e) :=
  (queueEvent_keeps d e).bounds (queueEvent_lists d e)

/-- What only Quay Port fields outside the four queues change. -/
theorem quay_bounds {d : Device} {q : QuayPort} (he : q.events = d.quay.events) (hr : q.replies = d.quay.replies)
    (hx : q.rxBuffer = d.quay.rxBuffer) : BoundsKept d { d with quay := q } :=
  ⟨QueuesKept.of_eq he hr hx rfl, ListsKept.of_eq rfl⟩

/-! #### The work of a request -/

theorem applied_queues {d d' : Device} (b : Bool) (data : List Byte) (h : QueuesKept d d') :
    QueuesKept d (applied d' b data).dev := by
  unfold applied
  split <;> exact h

theorem accept_queues {d d' : Device} (h : QueuesKept d d') : QueuesKept d (accept d').dev := h

theorem refuse_queues (d : Device) (s : ReplyStatus) : QueuesKept d (refuse d s).dev := QueuesKept.refl d

theorem tendOn_queues (d : Device) (i : LineId) : QueuesKept d (d.tendOn i).dev := by
  unfold Device.tendOn
  split
  · exact refuse_queues d _
  · exact accept_queues ((setState_work d i .tending).kept.trans (updLine_kept _ i _)).queues

theorem tendOff_queues (d : Device) (i : LineId) : QueuesKept d (d.tendOff i).dev := by
  unfold Device.tendOff
  split
  · exact refuse_queues d _
  · exact accept_queues (setState_work d i .locked).kept.queues

/-- A list of checks passes only where its last check does. -/
theorem firstFailure_append_none {l m : List (Bool × ReplyStatus)} (h : firstFailure (l ++ m) = none) :
    firstFailure m = none := by
  induction l with
  | nil => exact h
  | cons x l ih => exact ih (firstFailure_none h).2

/-- R61: the last check of a posted command is the place in the queue. -/
theorem postedChecks_full {d : Device} {i : LineId} {v : PostedVerb} (h : firstFailure (d.postedChecks i v) = none) :
    d.bridge.posted.length < 8 := by
  obtain ⟨-, hlast⟩ := firstFailure_none (firstFailure_append_none h)
  exact of_decide_eq_true (firstFailure_none hlast).1

/-- R62: an entry joins a queue of fewer than eight. -/
theorem post_queues (d : Device) (i : LineId) (v : PostedVerb) (a : Word16) : QueuesKept d (d.post i v a).dev := by
  unfold Device.post
  split
  · exact refuse_queues d _
  · exact refuse_queues d _
  · rename_i b hchecks _
    have hroom := postedChecks_full hchecks
    have henter (n : Nat) : QueuesKept d (d.enterPosted i b v n) :=
      { QueuesKept.refl d with
        posted := fun _ => by
          simp only [Device.enterPosted, List.length_append, List.length_singleton]
          omega }
    have hpost (n : Nat) :
        QueuesKept d (if v = .hold then (d.enterPosted i b v n).endTending i else d.enterPosted i b v n) :=
      QueuesKept.ite ((henter n).trans (endTending_kept _ i).queues) (henter n)
    dsimp only
    split
    · exact hpost _
    · exact accept_queues (hpost _)

theorem confirm_queues (d : Device) (i : LineId) (v : ConfirmedVerb) (tag : Byte) (a : Word16) :
    QueuesKept d (d.confirm i v tag a).dev := by
  have hfill (k : SlotId) : QueuesKept d (d.fillSlot k i v tag a) := by
    unfold Device.fillSlot
    dsimp only
    refine QueuesKept.trans ?_ (setState_work _ i _).kept.queues
    exact QueuesKept.of_eq rfl rfl rfl rfl
  unfold Device.confirm
  split
  · rename_i k _
    unfold Device.collect
    dsimp only
    split
    · exact QueuesKept.refl d
    · exact (setSlot_work d k _).kept.queues
  · split
    · exact refuse_queues d _
    · exact refuse_queues d _
    · dsimp only
      split
      · exact hfill _
      · exact hfill _

theorem lineCommand_queues (d : Device) (v : LineVerb) (l tag : Byte) (a : Word16) :
    QueuesKept d (d.lineCommand v l tag a).dev := by
  unfold Device.lineCommand
  split
  · exact refuse_queues d _
  · rename_i i _
    cases v
    · exact confirm_queues d i .runOut tag a
    · exact confirm_queues d i .lock tag a
    · exact confirm_queues d i .release tag a
    · exact confirm_queues d i .rewind tag a
    · exact tendOn_queues d i
    · exact tendOff_queues d i
    · exact post_queues d i .hold a
    · exact post_queues d i .heave a
    · exact post_queues d i .payout a

theorem loadEnvelope_queues (d : Device) (line : Byte) (s l h a cr hy p n : Word16) :
    QueuesKept d (d.loadEnvelope line s l h a cr hy p n).dev := by
  unfold Device.loadEnvelope
  split
  · exact refuse_queues d _
  · split
    · exact applied_queues _ _ (updLine_kept d _ _).queues
    · exact refuse_queues d _

theorem calibrateSensor_queues (d : Device) (i : LineId) (a b : CableCheck) :
    QueuesKept d (d.calibrateSensor i a b) := by
  unfold Device.calibrateSensor
  dsimp only
  refine QueuesKept.ite (QueuesKept.ite ?_ (updLine_kept d i _).queues) (QueuesKept.refl d)
  exact ((updLine_kept d i _).trans (queueEvent_keeps _ _)).queues.trans (QueuesKept.of_eq rfl rfl rfl rfl)

theorem loadCalibration_queues (d : Device) (line : Byte) (z s k : Word16) (c : Byte) :
    QueuesKept d (d.loadCalibration line z s k c).dev := by
  unfold Device.loadCalibration
  split
  · exact refuse_queues d _
  · exact refuse_queues d _
  · exact applied_queues _ _ ((updLine_kept d _ _).queues.trans (calibrateSensor_queues _ _ _ _))

theorem loadLimits_queues (d : Device) (line : Byte) (st mn mx ts ro rw lk rl dv : Word16) :
    QueuesKept d (d.loadLimits line st mn mx ts ro rw lk rl dv).dev := by
  unfold Device.loadLimits
  split
  · exact refuse_queues d _
  · split
    · exact applied_queues _ _ ((updLine_kept d _ _).trans (recheckTend_kept _ _)).queues
    · exact refuse_queues d _

theorem assignLine_queues (d : Device) (line s dr g : Byte) : QueuesKept d (d.assignLine line s dr g).dev := by
  unfold Device.assignLine
  split
  · exact refuse_queues d _
  · split
    · exact refuse_queues d _
    · split
      · split
        · exact refuse_queues d _
        · exact accept_queues ((updLine_kept d _ _).trans (takeConditions_work _).kept).queues
      · exact refuse_queues d _

theorem clearFresh_queues (d : Device) (i : LineId) : QueuesKept d (d.clearFresh i) := QueuesKept.of_eq rfl rfl rfl rfl

theorem unassignLine_queues (d : Device) (line : Byte) : QueuesKept d (d.unassignLine line).dev := by
  unfold Device.unassignLine
  split
  · exact refuse_queues d _
  · split
    · exact refuse_queues d _
    · split
      · exact refuse_queues d _
      · exact accept_queues ((((updLine_kept d _ _).trans (removePosted_kept _ _ _)).queues.trans
          (clearFresh_queues _ _)).trans (takeConditions_work _).kept.queues)

theorem clearFault_queues (d : Device) (line : Byte) : QueuesKept d (d.clearFault line).dev := by
  unfold Device.clearFault
  split
  · exact refuse_queues d _
  · split
    · exact accept_queues (setResync_work d _).kept.queues
    · exact refuse_queues d _

theorem abortLine_queues (d : Device) (line : Byte) : QueuesKept d (d.abortLine line).dev := by
  unfold Device.abortLine
  split
  · exact refuse_queues d _
  · split
    · exact refuse_queues d _
    · rename_i k _
      have hend := (endSlot_work d k .aborted).kept
      dsimp only
      split
      · exact accept_queues (Kept.ite (hend.trans (placeStop_kept _ _ _)) hend).queues
      · exact accept_queues hend.queues

/-- A trigger entry written, then tried as a LEVEL entry (R84, R99). -/
theorem loadEntry_queues (d : Device) (e : EntryId) (x : TriggerEntry) :
    QueuesKept d ((d.setEntry e x).reformAlm.testLevel e) :=
  (((setEntry_work d e x).trans (reformAlm_work _)).trans (testLevel_work _ e)).kept.queues

theorem loadTrigger_queues (d : Device) (e s p en m po a tm : Byte) (t : Word16) :
    QueuesKept d (d.loadTrigger e s p en m po a tm t).dev := by
  unfold Device.loadTrigger
  split
  · exact refuse_queues d _
  · exact refuse_queues d _
  · split
    · exact refuse_queues d _
    · exact accept_queues (loadEntry_queues d _ _)

theorem triggerAck_queues (d : Device) (entry : Byte) : QueuesKept d (d.triggerAck entry).dev := by
  unfold Device.triggerAck
  split
  · exact refuse_queues d _
  · dsimp only
    split
    · exact accept_queues (loadEntry_queues d _ _)
    · exact refuse_queues d _

theorem fireTrigger_queues (d : Device) (entry : Byte) : QueuesKept d (d.fireTrigger entry).dev := by
  unfold Device.fireTrigger
  split
  · exact refuse_queues d _
  · dsimp only
    split
    · exact refuse_queues d _
    · split
      · exact refuse_queues d _
      · exact accept_queues (fire_work d _).kept.queues

theorem stationConfig_queues (d : Device) (s m : Byte) (l : Word16) : QueuesKept d (d.stationConfig s m l).dev := by
  unfold Device.stationConfig
  split
  · exact refuse_queues d _
  · exact refuse_queues d _
  · exact applied_queues _ _ (updStation_kept d _ _).queues

theorem stationPower_queues (d : Device) (s o : Byte) : QueuesKept d (d.stationPower s o).dev := by
  unfold Device.stationPower
  split
  · exact refuse_queues d _
  · exact refuse_queues d _
  · split
    · exact refuse_queues d _
    · split
      · exact refuse_queues d _
      · exact accept_queues (switchPower_kept d _ _).queues

theorem globalPower_queues (d : Device) (o : Byte) : QueuesKept d (d.globalPower o).dev := by
  unfold Device.globalPower
  split
  · exact refuse_queues d _
  · split
    · exact QueuesKept.refl d
    · exact accept_queues (Kept.foldl _ (fun d st => switchPower_kept d st _) _ d).queues

theorem enableStation_queues (d : Device) (s : Byte) : QueuesKept d (d.enableStation s).dev := by
  unfold Device.enableStation
  split
  · exact refuse_queues d _
  · split
    · exact accept_queues (QueuesKept.refl d)
    · exact accept_queues (((((updStation_kept d _ _).trans (raiseChange_kept _ _ _)).trans
        (stationLost_kept _ _)).trans (takeConditions_work _).kept).trans (syncProbe_kept _ _)).queues

theorem parkOperation_queues (d : Device) (s : Byte) (b : Bool) : QueuesKept d (d.parkOperation s b).dev := by
  unfold Device.parkOperation
  split
  · exact refuse_queues d _
  · dsimp only
    split
    · exact refuse_queues d _
    · split
      · exact accept_queues (QueuesKept.refl d)
      · exact accept_queues (placeStation_kept d _ _).queues

theorem stationReset_queues (d : Device) (s : Byte) : QueuesKept d (d.stationReset s).dev := by
  unfold Device.stationReset
  split
  · exact refuse_queues d _
  · dsimp only
    split
    · exact refuse_queues d _
    · exact accept_queues ((updStation_kept d _ _).trans (placeStation_kept _ _ _)).queues

theorem ackStationChanges_queues (d : Device) (s f : Byte) : QueuesKept d (d.ackStationChanges s f).dev := by
  unfold Device.ackStationChanges
  split
  · exact refuse_queues d _
  · exact accept_queues (updStation_kept d _ _).queues

theorem setScan_queues (d : Device) (m t : Byte) (ss ps : LineSet) (iv : Word16) :
    QueuesKept d (d.setScan m t ss ps iv).dev := by
  unfold Device.setScan
  split
  · exact refuse_queues d _
  · exact refuse_queues d _
  · split
    · exact refuse_queues d _
    · exact applied_queues _ _ (QueuesKept.ite (applyConfig_kept d _).queues (QueuesKept.of_eq rfl rfl rfl rfl))

theorem setLink_queues (d : Device) (a b c e f g : Word16) : QueuesKept d (d.setLink a b c e f g).dev :=
  applied_queues _ _ (QueuesKept.of_eq rfl rfl rfl rfl)

/-- A request that only reads answers with the part it was given. -/
theorem readLine_dev (d : Device) (l : Byte) : (d.readLine l).dev = d := by
  unfold Device.readLine
  split <;> rfl

theorem readTrigger_dev (d : Device) (e : Byte) : (d.readTrigger e).dev = d := by
  unfold Device.readTrigger
  split <;> rfl

theorem readStatus_dev (d : Device) (p : Byte) : (d.readStatus p).dev = d := by
  unfold Device.readStatus
  split_ifs <;> rfl

/-- The work of every request. -/
theorem perform_queues (d : Device) (tag : Byte) (r : Request) : QueuesKept d (d.perform tag r).dev := by
  cases r
  case line v l a => exact lineCommand_queues d v l tag a
  case assignLine l s dr g => exact assignLine_queues d l s dr g
  case unassignLine l => exact unassignLine_queues d l
  case loadEnvelope l s lo hi a c h p n => exact loadEnvelope_queues d l s lo hi a c h p n
  case loadCalibration l z s k c => exact loadCalibration_queues d l z s k c
  case loadLimits l st mn mx ts ro rw lk rl dv => exact loadLimits_queues d l st mn mx ts ro rw lk rl dv
  case clearFault l => exact clearFault_queues d l
  case abortLine l => exact abortLine_queues d l
  case loadTrigger e s p en m po a tm t => exact loadTrigger_queues d e s p en m po a tm t
  case triggerAck e => exact triggerAck_queues d e
  case fireTrigger e => exact fireTrigger_queues d e
  case setScan m t ss ps iv => exact setScan_queues d m t ss ps iv
  case stationConfig s m l => exact stationConfig_queues d s m l
  case stationPower s o => exact stationPower_queues d s o
  case globalPower o => exact globalPower_queues d o
  case enableStation s => exact enableStation_queues d s
  case park s => exact parkOperation_queues d s true
  case unpark s => exact parkOperation_queues d s false
  case stationReset s => exact stationReset_queues d s
  case ackStationChanges s f => exact ackStationChanges_queues d s f
  case setLink a b c e f g => exact setLink_queues d a b c e f g
  case readLine l => exact (readLine_dev d l).symm ▸ QueuesKept.refl d
  case readTrigger e => exact (readTrigger_dev d e).symm ▸ QueuesKept.refl d
  case readStatus p => exact (readStatus_dev d p).symm ▸ QueuesKept.refl d
  all_goals exact QueuesKept.of_eq rfl rfl rfl rfl

theorem perform_bounds (d : Device) (tag : Byte) (r : Request) : BoundsKept d (d.perform tag r).dev :=
  ⟨perform_queues d tag r, perform_lists d tag r⟩

/-! #### Replies and received frames -/

/-- R164: a reply joins a queue of fewer than four. -/
theorem pushReply_within {d : Device} (r : Reply) (h : d.within) (hroom : d.quay.replies.length < 4) :
    (d.pushReply r).within := by
  obtain ⟨hevents, -, hrx, hrest⟩ := h
  exact ⟨pushReply_events d r hevents, (pushReply_replies d r).trans hroom, (pushReply_rxBuffer d r).symm ▸ hrx, hrest⟩

theorem run_within {d : Device} (tag : Byte) (r : Request) (h : d.within) (hroom : d.quay.replies.length < 4) :
    (d.run tag r).within := by
  have hwork := perform_bounds d tag r
  have hpush (x : Reply) : ((d.perform tag r).dev.pushReply x).within :=
    pushReply_within x (hwork.within h) (lt_of_le_of_lt hwork.queues.replies hroom)
  unfold Device.run
  dsimp only
  split
  · exact (settle_bounds _).within (hpush _)
  · exact (settle_bounds _).within (hpush _)

theorem canProcess_replies {q : QuayPort} (h : q.canProcess = true) : q.replies.length < 4 :=
  of_decide_eq_true (Bool.and_eq_true_iff.mp h).1

/-- The receive buffer written with at most four frames. -/
theorem rxBuffer_within {d : Device} {fs : List HostFrame} (h : d.within) (hfs : fs.length ≤ 4) :
    Device.within { d with quay := { d.quay with rxBuffer := fs } } := by
  obtain ⟨hevents, hreplies, -, hrest⟩ := h
  exact ⟨hevents, hreplies, hfs, hrest⟩

theorem drainList_within (fs : List HostFrame) (d : Device) (h : d.within) (hfs : fs.length ≤ 4) :
    (Device.drainList fs d).within := by
  induction fs generalizing d with
  | nil => exact h
  | cons f fs ih =>
    have hfs' : fs.length ≤ 4 := (Nat.le_succ _).trans hfs
    unfold Device.drainList
    split
    · rename_i hcan
      exact ih _ (run_within _ _ (rxBuffer_within h hfs') (canProcess_replies hcan)) hfs'
    · exact h

theorem drain_within {d : Device} (h : d.within) : d.drain.within := drainList_within _ d h h.2.2.1

/-- R164: a frame joins a buffer of fewer than four. -/
theorem takeIn_within {d : Device} (f : HostFrame) (h : d.within) : (d.takeIn f).within := by
  unfold Device.takeIn
  split
  · exact h
  · refine rxBuffer_within h ?_
    rw [List.length_append, List.length_singleton]
    omega

theorem hostHeard_bounds (d : Device) : BoundsKept d d.hostHeard := by
  have hquay : BoundsKept d
      { d with quay := { d.quay with silenceTimer := d.quay.link.silenceStart, hostSilent := false } } :=
    quay_bounds rfl rfl rfl
  exact BoundsKept.ite (hquay.trans (takeConditions_bounds _)) hquay

/-- Every command of the host. -/
theorem serve_within {d : Device} (tag : Byte) (r : Request) (h : d.within) : (Device.serve tag r d).within := by
  have hheard := (hostHeard_bounds d).within h
  unfold Device.serve
  dsimp only
  split
  · rename_i hcan
    exact run_within _ _ hheard (canProcess_replies (Bool.and_eq_true_iff.mp hcan).2)
  · exact (settle_bounds _).within (drain_within (takeIn_within _ hheard))

/-! #### The receiver -/

theorem setReceiver_bounds (d : Device) (r : Receiver) : BoundsKept d (d.setReceiver r) := quay_bounds rfl rfl rfl

theorem framing_within {d : Device} (cs : List Byte) (h : d.within) : (d.framing cs).within := by
  have hset (r : Receiver) : (d.setReceiver r).within := (setReceiver_bounds d r).within h
  have hcomplete : (d.frameComplete cs).within := by
    unfold Device.frameComplete
    split
    · exact drain_within (takeIn_within _ ((hostHeard_bounds _).within (hset .idle)))
    · exact hset _
  unfold Device.framing
  split
  · exact hset _
  · split
    · exact hset _
    · split
      · exact hcomplete
      · exact hset _

theorem receiveChar_within {d : Device} (c : Byte) (h : d.within) : (d.receiveChar c).within := by
  unfold Device.receiveChar
  split
  · exact h
  · exact framing_within _ h
  · exact framing_within _ h

theorem receive_within (cs : List Byte) (d : Device) (h : d.within) : (d.receive cs).within := by
  induction cs generalizing d with
  | nil => exact h
  | cons c cs ih => exact ih _ (receiveChar_within c h)

/-! #### Resets and the end of an up-link frame -/

/-- Writing places of a table, each by what it holds, writes each place of the list once. -/
theorem foldl_put_get {α : Type} {n : Nat} (f : α → α) (l : List (Fin n)) (hl : l.Nodup) (v : Vector α n) (i : Fin n) :
    (l.foldl (fun v j => put v j (f v[j])) v)[i] = if i ∈ l then f v[i] else v[i] := by
  induction l generalizing v with
  | nil => rfl
  | cons j l ih =>
    obtain ⟨hj, hl⟩ := List.nodup_cons.mp hl
    rw [List.foldl_cons, ih hl, put_get]
    by_cases hij : i = j
    · subst hij
      rw [if_neg hj, if_pos rfl, if_pos List.mem_cons_self]
    · simp only [List.mem_cons, hij, false_or, if_false]

theorem mapAll_get {α : Type} (v : Vector α 16) (f : α → α) (i : Fin 16) : (mapAll v f)[i] = f v[i] :=
  (foldl_put_get f all16 (by decide) v i).trans (if_pos (mem_all16 i))

/-- Every block's records and lists after its own soft reset, the probe timers and the edge references as they stood. -/
def Device.resetRecords (d : Device) : Device :=
  { d with
    quay := d.quay.softReset
    lines := mapAll d.lines LineRecord.softReset
    tend := []
    bridge := {}
    trig := d.trig.softReset
    scan := d.scan.softReset
    bus := d.bus.softReset
    stations := mapAll d.stations StationRecord.softReset
    hold := Vector.replicate 16 none }

/-- The probe timers as soft reset leaves them (R134). -/
def Device.resetProbes (d : Device) : Device :=
  all16.foldl (fun d st => d.setProbe st (if d.stations[st].probeDue then some 1000 else none)) d

/-- The edge references taken from the conditions (R102). -/
def Device.resetEdges (d : Device) : Device :=
  allEntries.foldl (fun d e => d.setEntry e { d.trig.entries[e] with edgeRef := d.conditionOf d.trig.entries[e] }) d

theorem softResetBlocks_eq (d : Device) : d.softResetBlocks = d.resetRecords.resetProbes.resetEdges := rfl

theorem resetRecords_within (d : Device) : d.resetRecords.within := by
  unfold Device.within QueuesWithin Device.resetRecords
  refine ⟨Nat.zero_le _, Nat.zero_le _, Nat.zero_le _, Nat.zero_le _, List.nodup_nil, List.nodup_nil, List.nodup_nil,
    fun r hr => absurd hr List.not_mem_nil, List.nodup_nil, Nat.zero_le _,
    fun x hx => absurd hx.symm (Option.some_ne_none x), fun st => ?_⟩
  dsimp only
  rw [mapAll_get]
  exact Nat.zero_le _

/-- R102, R121, R134, R150, R175: a soft reset empties every list; then the probe timers are set and the edge references
taken. -/
theorem softResetBlocks_within (d : Device) : d.softResetBlocks.within := by
  have hprobes (v : Device) : BoundsKept v v.resetProbes :=
    (Kept.foldl _ (fun d st => setProbe_kept d st _) _ v).bounds (ListsKept.foldl _ (fun d st => setProbe_lists d st _) _ v)
  have hedges (v : Device) : BoundsKept v v.resetEdges :=
    (Kept.foldl _ (fun d e => (setEntry_work d e _).kept) _ v).bounds (ListsKept.foldl _ (fun d e => setEntry_lists d e
      { d.trig.entries[e] with edgeRef := d.conditionOf d.trig.entries[e] } rfl) _ v)
  rw [softResetBlocks_eq]
  exact (hedges _).within ((hprobes _).within (resetRecords_within d))

theorem softReset_within (d : Device) : d.softReset.within :=
  ((Kept.foldl _ (fun d e => (testLevel_work d e).kept) _ _).bounds
    (ListsKept.foldl _ testLevel_lists allEntries _)).within (softResetBlocks_within d)

theorem frameSent_within {d : Device} (h : d.within) : d.frameSent.within := by
  unfold Device.frameSent
  split
  · exact softReset_within d
  · split
    · exact h
    · have hnext := startNext_kept { d.quay with transmitter := none }
      have hkept : Kept { d with quay := { d.quay with transmitter := none } }
          { d with quay := { d.quay with transmitter := none }.startNext } := ⟨hnext, le_refl _⟩
      exact drain_within ((hkept.bounds (ListsKept.of_eq rfl)).within h)

theorem resetEffect_within {d : Device} (h : d.within) : d.resetEffect.within := by
  unfold Device.resetEffect
  split
  · exact softReset_within d
  · exact h

/-- The bounds at reset hold of the part as power-on leaves it. -/
theorem powerOnReset_within (d : Device) : d.powerOnReset.within := invariantsHoldAtReset.2.1

theorem hostSilence_bounds (d : Device) : BoundsKept d d.hostSilence := by
  have hquay : BoundsKept d { d with quay := { d.quay with silenceTimer := none, hostSilent := true } } :=
    quay_bounds rfl rfl rfl
  exact BoundsKept.ite (BoundsKept.refl d) ((hquay.trans (queueEvent_bounds _ _)).trans (takeConditions_bounds _))

/-! #### The exchange engine -/

theorem endExchange_bounds (d : Device) (x : Exchange) (st : StationId) (a : Option Answer) (o : SilenceOrder) :
    BoundsKept d (d.endExchange x st a o) := (endExchange_kept d x st a o).bounds (endExchange_lists d x st a o)

theorem endBroadcast_bounds (d : Device) (x : Exchange) : BoundsKept d (d.endBroadcast x) :=
  (endBroadcast_kept d x).bounds (endBroadcast_lists d x)

theorem setObserver_bounds (d : Device) (o : Observer) : BoundsKept d (d.setObserver o) :=
  (setObserver_kept d o).bounds (setObserver_lists d o)

theorem arbitrationLost_bounds (d : Device) (w : Byte) : BoundsKept d (d.arbitrationLost w) := by
  unfold Device.arbitrationLost
  split
  · rename_i x _ hx
    exact BoundsKept.ite (((loseArbitration_kept d x).bounds (loseArbitration_lists d x hx)).trans
      (setObserver_bounds _ _)) (BoundsKept.refl d)
  · exact BoundsKept.refl d

theorem readBackMismatch_bounds (d : Device) (o : SilenceOrder) : BoundsKept d (d.readBackMismatch o) := by
  unfold Device.readBackMismatch
  split
  · split
    · exact endExchange_bounds _ _ _ _ _
    · exact endBroadcast_bounds _ _
  · exact BoundsKept.refl d

/-- The Station Bus written with its lists, poll run and exchange as they stand. -/
theorem bus_bounds {d : Device} {b : Bus} (hs : b.stationSource = d.bus.stationSource)
    (hr : b.pollRun = d.bus.pollRun) (hx : b.exchange = d.bus.exchange) : BoundsKept d { d with bus := b } :=
  ⟨QueuesKept.of_eq rfl rfl rfl rfl, ListsKept.of_eq (by simp only [Device.bounded, hs, hr, hx])⟩

theorem lastCharacter_bounds (d : Device) : BoundsKept d d.lastCharacter := by
  unfold Device.lastCharacter
  split
  · exact BoundsKept.ite (bus_bounds rfl rfl rfl) (BoundsKept.refl d)
  · exact BoundsKept.refl d

theorem broadcastDone_bounds (d : Device) : BoundsKept d d.broadcastDone := by
  unfold Device.broadcastDone
  split
  · exact BoundsKept.ite (endBroadcast_bounds _ _) (BoundsKept.refl d)
  · exact BoundsKept.refl d

theorem takeResponse_bounds (d : Device) (x : Exchange) (st : StationId) (cs : List Byte) (o : SilenceOrder) :
    BoundsKept d (d.takeResponse x st cs o) := by
  have hcount : BoundsKept d { d with freeCount := d.freeCount + 1 } :=
    ⟨QueuesKept.of_eq rfl rfl rfl rfl, ListsKept.of_eq rfl⟩
  exact (BoundsKept.ite hcount (BoundsKept.refl d)).trans (endExchange_bounds _ _ _ _ _)

theorem responseChars_bounds (d : Device) (cs : List Byte) (o : SilenceOrder) : BoundsKept d (d.responseChars cs o) := by
  unfold Device.responseChars
  split
  · exact BoundsKept.refl d
  · split
    · exact BoundsKept.refl d
    · exact BoundsKept.ite (bus_bounds rfl rfl rfl) (takeResponse_bounds _ _ _ _ _)

theorem responseFirst_bounds (d : Device) (c : Byte) (o : SilenceOrder) : BoundsKept d (d.responseFirst c o) :=
  BoundsKept.ite (responseChars_bounds d [c] o) (BoundsKept.refl d)

theorem responseBroken_bounds (d : Device) (o : SilenceOrder) : BoundsKept d (d.responseBroken o) := by
  unfold Device.responseBroken
  split
  · exact BoundsKept.refl d
  · exact BoundsKept.ite (endExchange_bounds _ _ _ _ _) (BoundsKept.refl d)

theorem windowExpires_bounds (d : Device) (o : SilenceOrder) : BoundsKept d (d.windowExpires o) := by
  unfold Device.windowExpires
  split
  · exact BoundsKept.refl d
  · exact BoundsKept.ite (endExchange_bounds _ _ _ _ _) (BoundsKept.refl d)

/-! #### The observer -/

/-- R157: what Local Control does may come on either side of the scheduler's choice. -/
theorem passEnding_bounds (d : Device) (o : FreeOrder) {f : Device → Device} (hf : ∀ d, BoundsKept d (f d)) :
    BoundsKept d (d.passEnding o f) := by
  have hquiet := setObserver_bounds d .quiet
  cases o
  case endingFirst => exact hquiet.trans (hf _)
  case choiceFirst => exact (hquiet.trans ((choose_kept _).bounds (choose_lists _))).trans (hf _)

theorem pendantFrame_bounds (d : Device) (cs : List Byte) (o : FreeOrder) : BoundsKept d (d.pendantFrame cs o) := by
  have hset (x : Observer) := setObserver_bounds d x
  have hstop := passEnding_bounds d o fun d => (broadcastStop_kept d).bounds (broadcastStop_lists d)
  have hback (a : Word16) := passEnding_bounds d o fun d => (handBack_kept d a).bounds (handBack_lists d a)
  exact BoundsKept.ite (hset _) (BoundsKept.ite (hset _) (BoundsKept.ite hstop (BoundsKept.ite (hback _) (hset _))))

theorem pendantChars_bounds (d : Device) (cs : List Byte) (o : FreeOrder) : BoundsKept d (d.pendantChars cs o) := by
  unfold Device.pendantChars
  split
  · exact BoundsKept.ite (setObserver_bounds d _) (pendantFrame_bounds d _ o)
  all_goals exact BoundsKept.refl d

theorem pendantAnswer_bounds (d : Device) (frame cs : List Byte) (o : FreeOrder) :
    BoundsKept d (d.pendantAnswer frame cs o) := by
  unfold Device.pendantAnswer
  split
  · exact passEnding_bounds d o fun d => (takeover_kept d _ _).bounds (takeover_lists d _ _)
  · exact setObserver_bounds d _

theorem answerChars_bounds (d : Device) (frame cs : List Byte) (o : FreeOrder) :
    BoundsKept d (d.answerChars frame cs o) := by
  unfold Device.answerChars
  split
  · exact BoundsKept.refl d
  · exact BoundsKept.ite (setObserver_bounds d _) (pendantAnswer_bounds d _ _ o)

theorem pendantResponse_bounds (d : Device) (cs : List Byte) (o : FreeOrder) :
    BoundsKept d (d.pendantResponse cs o) := by
  unfold Device.pendantResponse
  split
  · exact answerChars_bounds _ _ _ _
  · exact answerChars_bounds _ _ _ _
  all_goals exact BoundsKept.refl d

theorem pendantResponseFirst_bounds (d : Device) (c : Byte) : BoundsKept d (d.pendantResponseFirst c) := by
  unfold Device.pendantResponseFirst
  split
  · exact answerChars_bounds _ _ _ _
  all_goals exact BoundsKept.refl d

theorem pendantWindowEnds_bounds (d : Device) : BoundsKept d d.pendantWindowEnds := by
  unfold Device.pendantWindowEnds
  split
  · exact setObserver_bounds d _
  all_goals exact BoundsKept.refl d

theorem observerQuiet_bounds (d : Device) : BoundsKept d d.observerQuiet := by
  unfold Device.observerQuiet
  split
  case h_4 | h_5 | h_6 => exact BoundsKept.refl d
  all_goals exact setObserver_bounds d _

theorem quietAfterReset_bounds (d : Device) : BoundsKept d d.quietAfterReset := by
  unfold Device.quietAfterReset
  split
  · exact setObserver_bounds d _
  all_goals exact BoundsKept.refl d

theorem trafficStarts_bounds (d : Device) (c : Byte) : BoundsKept d (d.trafficStarts c) :=
  BoundsKept.ite (setObserver_bounds d _) (BoundsKept.refl d)

/-! #### Expiries and inputs -/

theorem holdExpires_bounds (d : Device) (st : StationId) : BoundsKept d (d.holdExpires st) :=
  BoundsKept.ite ((returnStation_kept d st _).bounds (returnStation_lists d st _)) (BoundsKept.refl d)

theorem powerGoodExpires_bounds (d : Device) (st : StationId) : BoundsKept d (d.powerGoodExpires st) :=
  BoundsKept.ite ((powerReady_kept d st).bounds (powerReady_lists d st)) (BoundsKept.refl d)

theorem endSlot_bounds (d : Device) (k : SlotId) (res : SlotResult) : BoundsKept d (d.endSlot k res) :=
  (endSlot_work d k res).kept.bounds (endSlot_lists d k res)

theorem actionExpires_bounds (d : Device) (k : SlotId) : BoundsKept d (d.actionExpires k) :=
  BoundsKept.ite (endSlot_bounds d k _) (BoundsKept.refl d)

theorem discardExpires_bounds (d : Device) (k : SlotId) : BoundsKept d (d.discardExpires k) := by
  unfold Device.discardExpires
  dsimp only
  split
  · exact ((setSlot_work d k _).kept.bounds (setSlot_lists d k _)).trans (queueEvent_bounds _ _)
  · exact BoundsKept.refl d

theorem releaseExpires_bounds (d : Device) (i : LineId) : BoundsKept d (d.releaseExpires i) :=
  BoundsKept.ite (((releaseTimers_work d _).trans (endRelease_work _ i false)).kept.bounds
    ((releaseTimers_lists d _).trans (endRelease_lists _ i false))) (BoundsKept.refl d)

theorem setInput_bounds (d : Device) (n : InputId) (x : TriggerInput) : BoundsKept d (d.setInput n x) :=
  ⟨QueuesKept.of_eq rfl rfl rfl rfl, ListsKept.of_eq rfl⟩

theorem stabilityExpires_bounds (d : Device) (n : InputId) : BoundsKept d (d.stabilityExpires n) :=
  BoundsKept.ite ((setInput_bounds d n _).trans (takeConditions_bounds _)) (BoundsKept.refl d)

/-- A millisecond touches timers only. -/
theorem tick_within {d : Device} (h : d.within) : d.tick.within := by
  obtain ⟨hevents, hreplies, hrx, hposted, htend, hpolls, hactions, hpending, hsource, hrun, hundo, hmissed⟩ := h
  unfold Device.within QueuesWithin Device.tick
  refine ⟨hevents, hreplies, hrx, hposted, htend, hpolls, hactions, hpending, hsource, hrun, hundo, fun st => ?_⟩
  dsimp only
  rw [mapAll_get]
  exact hmissed st

/-! #### Every step -/

/-- Every command that is no request of the host. -/
theorem exec_within_of_not_host {c : Instr} {s : State} (hc : hostRequest c = none) (h : s.dev.within) :
    ∃ d : Device, exec c s = .next { s with dev := d.settle } ∧ d.within := by
  cases c <;> cases hc
  case powerOnReset => exact ⟨_, rfl, powerOnReset_within _⟩
  case hostFrameReceived cs => exact ⟨_, rfl, receive_within cs _ h⟩
  case payloadLengthAbove240 kind tag n => exact ⟨_, rfl, receive_within [kind, tag, n] _ h⟩
  case receiverLineQuiet => exact ⟨_, rfl, (setReceiver_bounds _ _).within h⟩
  case resetTakesEffect => exact ⟨_, rfl, resetEffect_within h⟩
  case uplinkFrameSent => exact ⟨_, rfl, frameSent_within h⟩
  case silenceTimerExpires => exact ⟨_, rfl, (hostSilence_bounds _).within h⟩
  case arbitrationLost w => exact ⟨_, rfl, (arbitrationLost_bounds _ w).within h⟩
  case readBackMismatch o => exact ⟨_, rfl, (readBackMismatch_bounds _ o).within h⟩
  case lastCharacterSent => exact ⟨_, rfl, (lastCharacter_bounds _).within h⟩
  case broadcastSent => exact ⟨_, rfl, (broadcastDone_bounds _).within h⟩
  case responseComplete cs o => exact ⟨_, rfl, (responseChars_bounds _ cs o).within h⟩
  case responseFirstCharacter c o => exact ⟨_, rfl, (responseFirst_bounds _ c o).within h⟩
  case responseBroken o => exact ⟨_, rfl, (responseBroken_bounds _ o).within h⟩
  case responseWindowExpires o => exact ⟨_, rfl, (windowExpires_bounds _ o).within h⟩
  case pendantFrameObserved cs o => exact ⟨_, rfl, (pendantChars_bounds _ cs o).within h⟩
  case pendantWindowExpires => exact ⟨_, rfl, (pendantWindowEnds_bounds _).within h⟩
  case pendantResponseObserved cs o => exact ⟨_, rfl, (pendantResponse_bounds _ cs o).within h⟩
  case pendantResponseStarts c => exact ⟨_, rfl, (pendantResponseFirst_bounds _ c).within h⟩
  case observerLineQuiet => exact ⟨_, rfl, (observerQuiet_bounds _).within h⟩
  case busQuietAfterReset => exact ⟨_, rfl, (quietAfterReset_bounds _).within h⟩
  case observedTrafficStarts c => exact ⟨_, rfl, (trafficStarts_bounds _ c).within h⟩
  case localHoldTimerExpires st => exact ⟨_, rfl, (holdExpires_bounds _ st).within h⟩
  case powerGoodTimerExpires st => exact ⟨_, rfl, (powerGoodExpires_bounds _ st).within h⟩
  case intervalTimerExpires =>
    exact ⟨_, rfl, ((intervalExpires_kept _).bounds (intervalExpires_lists _)).within h⟩
  case followUpTimerExpires i =>
    exact ⟨_, rfl, ((followUpExpires_kept _ i).bounds (followUpExpires_lists _ i)).within h⟩
  case probeTimerExpires st =>
    exact ⟨_, rfl, ((probeExpires_kept _ st).bounds (probeExpires_lists _ st)).within h⟩
  case actionTimerExpires k => exact ⟨_, rfl, (actionExpires_bounds _ k).within h⟩
  case discardTimerExpires k => exact ⟨_, rfl, (discardExpires_bounds _ k).within h⟩
  case releaseTimerExpires i => exact ⟨_, rfl, (releaseExpires_bounds _ i).within h⟩
  case inputLevelChange n l => exact ⟨_, rfl, (setInput_bounds _ n _).within h⟩
  case stabilityTimerExpires n => exact ⟨_, rfl, (stabilityExpires_bounds _ n).within h⟩

theorem exec_within {c : Instr} {s t : State} (h : s.dev.within) (he : exec c s = .next t) : t.dev.within := by
  obtain hnone | ⟨⟨tag, r⟩, hsome⟩ := Option.eq_none_or_eq_some (hostRequest c)
  case inl =>
    obtain ⟨d, hd, hw⟩ := exec_within_of_not_host hnone h
    rw [← Host.Outcome.next.inj (hd.symm.trans he)]
    exact (settle_bounds d).within hw
  case inr =>
    rw [← Host.Outcome.next.inj ((exec_of_hostRequest c tag r s hsome).symm.trans he)]
    exact serve_within tag r h

/-- Settles O4: every command and every millisecond keeps the bounds (`exec_within`, `tick_within`); a list whose keys are
apart is no longer than there are keys. -/
theorem everyStepKeepsTheQueuesWithin : Obligations.EveryStepKeepsTheQueuesWithin := by
  unfold Obligations.EveryStepKeepsTheQueuesWithin
  refine ⟨fun s t hs hstep => ?step, fun s hs => ?lengths⟩
  case step =>
    obtain ⟨dev, _ | ⟨c, rest⟩⟩ := s
    case nil =>
      rw [← Host.Outcome.next.inj hstep]
      exact tick_within hs
    case cons => exact exec_within (s := { dev := dev, pending := rest }) hs hstep
  case lengths =>
    obtain ⟨hevents, hreplies, hrx, hposted, htend, hpolls, hactions, -, hsource, hrun, -, hmissed⟩ := hs
    have htend' := htend.length_le_card
    have hpolls' := hpolls.length_le_card
    have hactions' := hactions.length_le_card
    have hsource' := hsource.length_le_card
    simp only [List.length_map, Fintype.card_fin, Fintype.card_sum, Fintype.card_prod] at htend' hpolls' hactions' hsource'
    exact ⟨hevents, hreplies, hrx, hposted, htend', hpolls', hactions', hsource', hrun, hmissed⟩

end Sys2Proof.Machine

/-! ### The Quay Port: the arbiter, the ends of frames and what is received (O8, O9, O10, O12, O13, O14) -/

namespace Sys2Proof.Machine

/-! #### Searches in a list of rising numbers -/

/-- A search finds the lowest number at which it finds anything. -/
theorem findSome?_lowest {β : Type} {n : Nat} {f : Fin n → Option β} {l : List (Fin n)} {a : Fin n} {b : β}
    (hl : l.Pairwise (· < ·)) (ha : a ∈ l) (hf : f a = some b) (h : ∀ x ∈ l, x < a → f x = none) :
    l.findSome? f = some b := by
  induction l with
  | nil => exact absurd ha List.not_mem_nil
  | cons x l ih =>
    obtain ⟨hx, hl⟩ := List.pairwise_cons.mp hl
    obtain rfl | ha := List.mem_cons.mp ha
    · rw [List.findSome?_cons, hf]
    · rw [List.findSome?_cons, h x List.mem_cons_self (hx a ha)]
      exact ih hl ha fun y hy => h y (List.mem_cons_of_mem x hy)

theorem find?_lowest {n : Nat} {p : Fin n → Bool} {l : List (Fin n)} {a : Fin n} (hl : l.Pairwise (· < ·))
    (ha : a ∈ l) (hp : p a = true) (h : ∀ x ∈ l, x < a → p x = false) : l.find? p = some a := by
  induction l with
  | nil => exact absurd ha List.not_mem_nil
  | cons x l ih =>
    obtain ⟨hx, hl⟩ := List.pairwise_cons.mp hl
    obtain rfl | ha := List.mem_cons.mp ha
    · rw [List.find?_cons_of_pos hp]
    · rw [List.find?_cons_of_neg (by rw [h x List.mem_cons_self (hx a ha)]; exact Bool.false_ne_true)]
      exact ih hl ha fun y hy => h y (List.mem_cons_of_mem x hy)

theorem all16_pairwise : all16.Pairwise (· < ·) := by decide

theorem allSlots_pairwise : allSlots.Pairwise (· < ·) := by decide

theorem mem_allSlots (k : SlotId) : k ∈ allSlots := by
  revert k
  decide

/-! #### The arbiter (R169, R173) -/

section Arbiter
variable {q : QuayPort}

theorem QuayPort.startNext_of_reply {r : Reply} {rs : List Reply} (hidle : q.transmitter = none)
    (hreplies : q.replies = r :: rs) :
    q.startNext = { q with replies := rs, transmitter := some (.reply r) } := by
  unfold QuayPort.startNext
  simp only [hidle, hreplies]

/-- R173: the fresh slot that comes first after the last one sent. -/
theorem QuayPort.nextSample_eq {i : LineId} {x : Sample} (hfresh : q.telemetry[i].fresh = true)
    (hx : q.telemetry[i].sample = some x)
    (hfirst : ∀ j : LineId, q.telemetry[j].fresh = true →
      (i - q.lastTelemetry - 1).val ≤ (j - q.lastTelemetry - 1).val) : q.nextSample = some (i, x) := by
  unfold QuayPort.nextSample after16
  rw [List.findSome?_map]
  have hplace (j : LineId) : q.lastTelemetry + 1 + (j - q.lastTelemetry - 1) = j := by abel
  have hoffset (k : LineId) : q.lastTelemetry + 1 + k - q.lastTelemetry - 1 = k := by abel
  refine findSome?_lowest (a := i - q.lastTelemetry - 1) all16_pairwise (mem_all16 _) ?_ fun k _ hk => ?_
  · rw [Function.comp_apply, hplace, if_pos hfresh, hx]
    rfl
  · rw [Function.comp_apply, if_neg]
    intro hk'
    have hle := hfirst _ hk'
    rw [hoffset] at hle
    exact absurd hk (not_lt.mpr hle)

theorem QuayPort.startNext_of_telemetry {i : LineId} {x : Sample} (hidle : q.transmitter = none)
    (hreplies : q.replies = []) (hevents : q.events = []) (h : q.nextSample = some (i, x)) :
    q.startNext = { q with
      telemetry := put q.telemetry i { q.telemetry[i] with fresh := false }, lastTelemetry := i,
      transmitter := some (.telemetry x) } := by
  unfold QuayPort.startNext
  simp only [hidle, hreplies, hevents, h]

theorem QuayPort.nextSample_none (h : ∀ j : LineId, q.telemetry[j].fresh = false) : q.nextSample = none := by
  unfold QuayPort.nextSample
  refine List.findSome?_eq_none_iff.mpr fun j _ => if_neg ?_
  rw [h j]
  exact Bool.false_ne_true

theorem QuayPort.startNext_of_nothing (hreplies : q.replies = []) (hevents : q.events = []) (h : q.nextSample = none) :
    q.startNext = q := by
  unfold QuayPort.startNext
  simp only [hreplies, hevents, h]
  split <;> rfl

end Arbiter

theorem pushReply_of_sending {d : Device} (r : Reply) (h : d.quay.transmitter.isSome) :
    d.pushReply r = { d with quay := { d.quay with replies := d.quay.replies ++ [r] } } := by
  unfold Device.pushReply
  rw [QuayPort.startNext_of_sending]
  exact h

theorem pushReply_of_idle {d : Device} (r : Reply) (hidle : d.quay.transmitter = none) (h : d.quay.replies = []) :
    d.pushReply r = { d with quay := { d.quay with transmitter := some (.reply r) } } := by
  unfold Device.pushReply
  rw [QuayPort.startNext_of_reply (q := { d.quay with replies := d.quay.replies ++ [r] }) (r := r) (rs := []) hidle
    (by rw [h]; rfl)]
  simp only [← h]

/-! #### The characters (R159, R160) -/

theorem crc16_append (bs : List Byte) (b : Byte) : crc16 (bs ++ [b]) = [7, 6, 5, 4, 3, 2, 1, 0].foldl
    (fun (r : BitVec 16) n => if r.msb = b.getLsbD n then r <<< 1 else (r <<< 1) ^^^ 0x1021) (crc16 bs) := by
  have hbit (r : BitVec 16) (n : Nat) : crcBit 0x1021#16 r (b.getLsbD n) =
      if r.msb = b.getLsbD n then r <<< 1 else (r <<< 1) ^^^ 0x1021 := by
    unfold crcBit
    by_cases h : r.msb = b.getLsbD n
    · rw [if_pos h, if_neg (by simp [h])]
    · rw [if_neg h, if_pos (by simpa using h)]
      rfl
  rw [crc16, List.foldl_append, List.foldl_cons, List.foldl_nil, ← crc16, crcByte]
  simp only [hbit]

theorem byte2_eq {n : Nat} (h : n < 65536) : byte2 n = [BitVec.ofNat 8 (n / 256), BitVec.ofNat 8 (n % 256)] := by
  have hhi : (BitVec.ofNat 16 n).extractLsb' 8 8 = BitVec.ofNat 8 (n / 256) := by
    apply BitVec.eq_of_toNat_eq
    simp only [BitVec.extractLsb'_toNat, BitVec.toNat_ofNat, Nat.shiftRight_eq_div_pow]
    omega
  have hlo : (BitVec.ofNat 16 n).extractLsb' 0 8 = BitVec.ofNat 8 (n % 256) := by
    apply BitVec.eq_of_toNat_eq
    simp only [BitVec.extractLsb'_toNat, BitVec.toNat_ofNat, Nat.shiftRight_zero]
    omega
  rw [byte2, wordBytes, hhi, hlo]

theorem ChangeFlags.byte_eq (f : ChangeFlags) : f.byte = BitVec.ofNat 8 ((if f.presence then 1 else 0) +
    (if f.enable then 2 else 0) + (if f.park then 4 else 0) + (if f.fault then 8 else 0) +
    (if f.reset then 16 else 0)) := by
  obtain ⟨p, e, k, t, r⟩ := f
  revert p e k t r
  decide

/-- Settles O8: the arbiter's cases, the check sequence bit by bit, and the tables kind by kind. -/
theorem uplinkArbiterOrder : Obligations.UplinkArbiterOrder := by
  unfold Obligations.UplinkArbiterOrder
  refine ⟨fun q f h => QuayPort.startNext_of_sending (h ▸ rfl), fun _ _ _ => QuayPort.startNext_of_reply,
    fun _ _ _ => QuayPort.startNext_of_event, ?telemetry,
    fun q _ hreplies hevents h => QuayPort.startNext_of_nothing hreplies hevents (QuayPort.nextSample_none h),
    fun _ r => pushReply_of_sending r, fun _ r => pushReply_of_idle r, fun _ _ => rfl,
    fun _ _ _ => rfl, rfl, crc16_append, fun _ => rfl, fun _ _ => rfl, fun _ => rfl, ?kinds, ?subjects, ?data,
    fun _ => byte2_eq, fun _ => rfl, fun _ => rfl, ChangeFlags.byte_eq, fun src => by cases src <;> rfl, rfl, rfl, rfl,
    rfl, rfl, rfl, rfl, rfl, rfl, rfl, rfl, rfl, rfl, rfl, rfl, rfl, rfl, rfl, rfl, rfl, rfl⟩
  case telemetry =>
    intro q i x hidle hreplies hevents hfresh hx hfirst
    rw [QuayPort.startNext_of_telemetry hidle hreplies hevents (QuayPort.nextSample_eq hfresh hx hfirst), ← hx]
  case kinds =>
    intro e
    cases e <;> rfl
  case subjects =>
    intro e
    cases e
    case localTaken st ls v => cases st <;> rfl
    all_goals rfl
  case data =>
    intro e
    cases e
    case triggerFired n source a n => exact List.append_assoc _ _ _
    all_goals rfl

/-! #### The end of the frame being sent (O9) -/

theorem sendsResetReply_of_not_awaiting {q : QuayPort} (h : q.resetAwaiting = false) : q.sendsResetReply = false := by
  rw [QuayPort.sendsResetReply, h, Bool.false_and, Bool.false_and]

theorem drain_of_empty {d : Device} (h : d.quay.rxBuffer = []) : d.drain = d := by
  rw [Device.drain, h, Device.drainList]

/-- One frame waits, and the Quay Port may process it (R164). -/
theorem drain_of_one {d : Device} {f : HostFrame} (h : d.quay.rxBuffer = [f]) (hroom : d.quay.replies.length < 4)
    (hreset : d.quay.resetAwaiting = false) :
    d.drain = { d with quay := { d.quay with rxBuffer := [] } }.run f.tag f.request := by
  have hcan : d.quay.canProcess = true := by simp [QuayPort.canProcess, hroom, hreset]
  rw [Device.drain, h, Device.drainList, if_pos hcan, Device.drainList]

section FrameSent
variable {d : Device}

theorem frameSent_of_idle (h : d.quay.transmitter = none) : d.frameSent = d := by
  have hno : d.quay.sendsResetReply = false := by simp [QuayPort.sendsResetReply, h]
  simp [Device.frameSent, hno, h]

theorem frameSent_of_sending {f : UplinkFrame} (h : d.quay.transmitter = some f) (hreset : d.quay.resetAwaiting = false) :
    d.frameSent = { d with quay := { d.quay with transmitter := none }.startNext }.drain := by
  simp [Device.frameSent, sendsResetReply_of_not_awaiting hreset, h]

theorem frameSent_of_resetReply {r : Reply} (h : d.quay.transmitter = some (.reply r)) (hreplies : d.quay.replies = [])
    (hreset : d.quay.resetAwaiting = true) : d.frameSent = d.softReset := by
  have hyes : d.quay.sendsResetReply = true := by simp [QuayPort.sendsResetReply, h, hreplies, hreset]
  rw [Device.frameSent, if_pos hyes]

end FrameSent

/-- Settles O9. In the third clause the arbiter takes a reply, which leaves room for the frame that waits. -/
theorem uplinkFrameEnds : Obligations.UplinkFrameEnds := by
  unfold Obligations.UplinkFrameEnds
  intro s
  have hexec : exec .uplinkFrameSent s = .next { s with dev := s.dev.frameSent.settle } := rfl
  have hkept := startNext_kept { s.dev.quay with transmitter := none }
  refine ⟨fun h => ?idle, fun f h hrx hreset => ?next, fun r f h hrx hreset hfull => ?waiting,
    fun r h hreplies hreset => ?reset⟩
  case idle =>
    rw [hexec, frameSent_of_idle h]
    rfl
  case next =>
    rw [hexec, frameSent_of_sending h hreset, drain_of_empty (hkept.rxBuffer.trans hrx)]
    rfl
  case waiting =>
    obtain ⟨r', rs, hreplies⟩ := List.exists_cons_of_length_pos (by omega : 0 < s.dev.quay.replies.length)
    have hroom : ({ s.dev.quay with transmitter := none } : QuayPort).startNext.replies.length < 4 := by
      rw [QuayPort.startNext_of_reply (q := { s.dev.quay with transmitter := none }) (r := r') (rs := rs) rfl hreplies]
      rw [hreplies, List.length_cons] at hfull
      show rs.length < 4
      omega
    rw [hexec, frameSent_of_sending h hreset, drain_of_one (hkept.rxBuffer.trans hrx) hroom (hkept.resetAwaiting.trans hreset)]
    rfl
  case reset =>
    rw [hexec, frameSent_of_resetReply h hreplies hreset]
    rfl

/-! #### A request's frame (O10, O14) -/

theorem takeIn_of_full {d : Device} (f : HostFrame) (h : 4 ≤ d.quay.replies.length ∨ 4 ≤ d.quay.rxBuffer.length) :
    d.takeIn f = d := if_pos h

theorem takeIn_of_room {d : Device} (f : HostFrame) (hr : d.quay.replies.length < 4) (hx : d.quay.rxBuffer.length < 4) :
    d.takeIn f = { d with quay := { d.quay with rxBuffer := d.quay.rxBuffer ++ [f] } } :=
  if_neg (not_or.mpr ⟨hr.not_ge, hx.not_ge⟩)

theorem canProcess_of_full {q : QuayPort} (h : 4 ≤ q.replies.length) : q.canProcess = false := by
  simp [QuayPort.canProcess, h]

theorem canProcess_of_awaiting {q : QuayPort} (h : q.resetAwaiting = true) : q.canProcess = false := by
  simp [QuayPort.canProcess, h]

/-- Settles O10: every request is served, and `serve` is known on a part that may process and on one that may not. -/
theorem requestsWaitOrAreLost : Obligations.RequestsWaitOrAreLost := by
  unfold Obligations.RequestsWaitOrAreLost
  intro c tag r s₀ hc s
  rw [exec_of_hostRequest c tag r s₀ hc]
  have hlost (hcan : s.dev.quay.canProcess = false)
      (hfull : 4 ≤ s.dev.quay.replies.length ∨ 4 ≤ s.dev.quay.rxBuffer.length) :
      s₀.onDevice (Device.serve tag r) = s.onDevice Device.settle := by
    rw [State.onDevice, serve_of_cannot tag r hcan, takeIn_of_full (d := s₀.dev.hostHeard) _ hfull]
    rfl
  refine ⟨fun hfull => ?_, fun hreset _ hfull => ?_, fun hreset hroom hrx => ?_, fun hready => ?_⟩
  · rw [hlost (canProcess_of_full hfull) (.inl hfull)]
  · rw [hlost (canProcess_of_awaiting hreset) (.inr hfull)]
  · rw [State.onDevice, serve_of_cannot tag r (canProcess_of_awaiting hreset), takeIn_of_room (d := s₀.dev.hostHeard) _ hroom hrx]
    rfl
  · rw [State.onDevice, serve_of_ready tag r hready]
    rfl

theorem readLineCommand_of_verb {l v hi lo : Byte} (h : lineVerbOfCode v = none) :
    readLineCommand [l, v, hi, lo] = .badLine [l, v, hi, lo] := by
  simp only [readLineCommand, h]

theorem readLineCommand_of_length {p : List Byte} (h : p.length ≠ 4) : readLineCommand p = .badLine p := by
  unfold readLineCommand
  split
  · exact absurd rfl h
  · rfl

/-- A request with no code, run: the reply carries a free value (log entry 9). -/
theorem run_of_no_code {d : Device} (tag : Byte) {r : Request} (h : r.code = none)
    (hd : d.perform tag r = refuse d .badArgument) :
    d.run tag r = { d.pushReply { tag := tag, status := .badArgument, kind := r.kind,
                                  code := Config.absentCode d.freeCount, data := [] } with
                    freeCount := d.freeCount + 1 }.settle := by
  unfold Device.run
  simp only [h, hd]
  rfl

/-- Settles O14: each of these requests is refused as it stands; with a verb or code the reply names it. -/
theorem framesWithNoMeaning : Obligations.FramesWithNoMeaning := by
  unfold Obligations.FramesWithNoMeaning
  refine ⟨?verb, ?length, ?short, ?empty, ?unknown⟩
  case verb =>
    intro tag l v hi lo s₀ hs s h
    exact exec_of_ready _ tag (.badLine [l, v, hi, lo]) v s₀
      (congrArg (fun r => some (tag, r)) (readLineCommand_of_verb h)) rfl hs
  case length =>
    intro tag l v rest s₀ hs s h
    exact exec_of_ready _ tag (.badLine (l :: v :: rest)) v s₀
      (congrArg (fun r => some (tag, r)) (readLineCommand_of_length (by simpa using h))) rfl hs
  case short =>
    intro tag p s₀ hs s h
    have hr : hostRequest (.undefinedVerb tag p) = some (tag, .badLine p) :=
      congrArg (fun r => some (tag, r)) (readLineCommand_of_length (by omega))
    rw [exec_of_hostRequest _ tag _ s₀ hr, State.onDevice, serve_of_ready tag _ hs,
      run_of_no_code tag (List.getElem?_eq_none (by omega)) rfl]
    rfl
  case empty =>
    intro tag s₀ hs s
    rw [exec_of_hostRequest _ tag .emptyManagement s₀ rfl, State.onDevice, serve_of_ready tag _ hs,
      run_of_no_code tag rfl rfl]
    rfl
  case unknown =>
    intro tag code fields s₀ hs s h
    exact exec_of_ready _ tag (.unknown code fields) code s₀
      (congrArg (fun r => some (tag, r)) (if_neg h)) rfl hs

/-! #### The silence monitor (O13) -/

theorem hostSilence_of_running {d : Device} {ms : Nat} (h : d.quay.silenceTimer = some ms) :
    d.hostSilence = ({ d with quay := { d.quay with silenceTimer := none, hostSilent := true } }.queueEvent
      (.hostSilent d.quay.link.silence)).takeConditions := by
  simp [Device.hostSilence, h]

theorem hostSilence_of_stopped {d : Device} (h : d.quay.silenceTimer = none) : d.hostSilence = d := by
  simp [Device.hostSilence, h]

/-- Settles O13. -/
theorem silenceMonitor : Obligations.SilenceMonitor := by
  unfold Obligations.SilenceMonitor
  have hexec (s : State) : exec .silenceTimerExpires s = .next { s with dev := s.dev.hostSilence.settle } := rfl
  refine ⟨fun s ms h => ?_, fun s h => ?_, fun d h => hostHeard_of_not_silent h, fun d h => if_pos h,
    fun d => (hostHeard_work d).quay.hostSilent⟩
  · rw [hexec, hostSilence_of_running h]
    rfl
  · rw [hexec, hostSilence_of_stopped h]
    rfl

/-! #### Reading a request back (O11) -/

/-- A word from its two characters. -/
theorem word16_bytes (w : Word16) : word16 (w.extractLsb' 8 8) (w.extractLsb' 0 8) = w := by
  unfold word16
  ext i hi
  simp only [BitVec.getElem_append, BitVec.getElem_extractLsb', Nat.zero_add]
  split
  · exact BitVec.getLsbD_eq_getElem hi
  · rw [Nat.add_sub_cancel' (by omega)]
    exact BitVec.getLsbD_eq_getElem hi

theorem lineVerb_roundTrip (v : LineVerb) : lineVerbOfCode (codeLineVerb v) = some v := by
  cases v <;> rfl

theorem hostKind_roundTrip (k : HostKind) : hostKindOfCode (codeHostKind k) = some k := by
  cases k <;> rfl

/-- The outer layout read back (R159, R160): the last two characters are the CRC-16 of those before them. -/
theorem HostFrame.read_bytes (f : HostFrame) : HostFrame.read f.bytes = some f := by
  obtain ⟨kind, tag, payload⟩ := f
  have hlength (w : Word16) : (payload ++ wordBytes w).length - 2 = payload.length := by simp [wordBytes]
  simp only [HostFrame.bytes, quayBytes, List.cons_append, HostFrame.read, hlength, List.take_succ_cons,
    List.take_left', List.drop_left', if_true, hostKind_roundTrip, Option.map_some]

/-- A request that is an operation of the table, read from its payload. -/
theorem request_of_fields {tag : Byte} {r r' : Request} {c : Byte} {fs : List Byte} (hkind : r.kind = .management)
    (hpayload : r.payload = c :: fs) (hcode : c.toNat ∈ operationCodes) (hfields : readFields c.toNat fs = some r') :
    (r.frame tag).request = r' := by
  simp only [HostFrame.request, Request.frame, hkind, hpayload, readManagement, if_pos hcode, hfields, Option.getD_some]

/-- Settles O11: the layout reads back, and then the payload's fields, request by request. -/
theorem everyRequestReadsBackFromItsFrame : Obligations.EveryRequestReadsBackFromItsFrame := by
  unfold Obligations.EveryRequestReadsBackFromItsFrame
  intro tag r hcanon hlen
  clear hlen
  refine ⟨HostFrame.read_bytes _, ?_⟩
  cases r
  case line verb line arg =>
    show readLineCommand [line, codeLineVerb verb, arg.extractLsb' 8 8, arg.extractLsb' 0 8] = _
    simp only [readLineCommand, lineVerb_roundTrip, word16_bytes]
  case badLine payload => exact hcanon
  case emptyManagement => rfl
  case unknown code fields => exact if_neg hcanon
  case wrongLength code fields =>
    obtain ⟨hcode, hfields⟩ := hcanon
    show (if code.toNat ∈ operationCodes then (readFields code.toNat fields).getD (.wrongLength code fields)
      else .unknown code fields) = _
    rw [if_pos hcode, hfields, Option.getD_none]
  all_goals
    refine (request_of_fields rfl rfl ?code rfl).trans ?words
    case code => decide
    case words => simp only [word16_bytes]

/-! #### The receiver (O12) -/

theorem receive_cons (d : Device) (c : Byte) (cs : List Byte) : d.receive (c :: cs) = (d.receiveChar c).receive cs := rfl

theorem receive_of_discarding {d : Device} (cs : List Byte) (h : d.quay.receiver = .discarding) : d.receive cs = d := by
  induction cs with
  | nil => rfl
  | cons c cs ih =>
    have hc : d.receiveChar c = d := by simp only [Device.receiveChar, h]
    rw [receive_cons, hc, ih]

/-- A frame not yet complete waits in the receiver. -/
theorem framing_of_incomplete {d : Device} {cs : List Byte}
    (h : ∀ n, frameLength cs = some n → n ≤ 245 ∧ cs.length ≠ n) : d.framing cs = d.setReceiver (.receiving cs) := by
  unfold Device.framing
  split
  · rfl
  · rename_i n hn
    obtain ⟨hle, hne⟩ := h n hn
    rw [if_neg hle.not_gt, if_neg hne]

/-- The characters of a frame after those already received, up to its last. -/
theorem receive_rest (d : Device) (got rest : List Byte) (hrest : rest ≠ [])
    (hlen : ∀ n : Byte, (got ++ rest)[2]? = some n → n.toNat ≤ 240 ∧ (got ++ rest).length = 5 + n.toNat)
    (hlong : 3 ≤ (got ++ rest).length) :
    (d.setReceiver (.receiving got)).receive rest =
      (d.setReceiver (.receiving (got ++ rest).dropLast)).frameComplete (got ++ rest) := by
  induction rest generalizing got with
  | nil => exact absurd rfl hrest
  | cons c rest ih =>
    rw [receive_cons]
    show ((d.setReceiver (.receiving got)).framing (got ++ [c])).receive rest = _
    by_cases hlast : rest = []
    · subst hlast
      have hthird := List.getElem?_eq_getElem (l := got ++ [c]) (i := 2) (by omega)
      obtain ⟨hle, heq⟩ := hlen _ hthird
      unfold Device.framing frameLength
      rw [hthird]
      simp only [Option.map_some]
      rw [if_neg (by omega), if_pos heq, List.dropLast_concat]
      rfl
    · have hassoc : got ++ c :: rest = got ++ [c] ++ rest := by simp
      rw [hassoc] at hlen hlong ⊢
      rw [framing_of_incomplete]
      · exact ih (got ++ [c]) hlast hlen hlong
      · intro n hn
        unfold frameLength at hn
        obtain ⟨b, hb, rfl⟩ := Option.map_eq_some_iff.mp hn
        obtain ⟨hlt, -⟩ := List.getElem?_eq_some_iff.mp hb
        obtain ⟨hle, heq⟩ := hlen b ((List.getElem?_append_left hlt).trans hb)
        have hpos := List.length_pos_iff.mpr hlast
        rw [List.length_append] at heq
        omega

/-- A frame's characters in IDLE are one complete frame (R163). -/
theorem receive_frame (d : Device) (kind tag n : Byte) (rest : List Byte) (h : d.quay.receiver = .idle)
    (hn : n.toNat ≤ 240) (hlen : rest.length = n.toNat + 2) :
    d.receive (kind :: tag :: n :: rest) =
      (d.setReceiver (.receiving (kind :: tag :: n :: rest).dropLast)).frameComplete (kind :: tag :: n :: rest) := by
  have hfirst : d.receiveChar kind = d.setReceiver (.receiving [kind]) := by
    simp only [Device.receiveChar, h]
    exact framing_of_incomplete fun m hm => absurd hm.symm (Option.some_ne_none m)
  rw [receive_cons, hfirst]
  refine receive_rest d [kind] (tag :: n :: rest) (List.cons_ne_nil _ _) ?_ (by simp)
  intro b hb
  obtain rfl : n = b := Option.some.inj hb
  refine ⟨hn, ?_⟩
  simp only [List.cons_append, List.nil_append, List.length_cons, hlen]
  omega

theorem setReceiver_of_eq {d : Device} {r : Receiver} (h : d.quay.receiver = r) : d.setReceiver r = d := by
  rw [← h]
  rfl

/-- A payload length above 240 discards the frame with its third character. -/
theorem receive_of_long {d : Device} (kind tag n : Byte) (h : d.quay.receiver = .idle) (hn : 240 < n.toNat) :
    d.receive [kind, tag, n] = d.setReceiver .discarding := by
  have hlong : 245 < 5 + n.toNat := by omega
  simp [Device.receive, Device.receiveChar, h, Device.framing, frameLength, hlong, Device.setReceiver]

theorem drain_of_cannot {d : Device} (h : d.quay.rxBuffer = [] ∨ 4 ≤ d.quay.replies.length ∨
    d.quay.resetAwaiting = true) : d.drain = d := by
  obtain h | h | h := h
  · exact drain_of_empty h
  · exact drainList_of_cannot _ (canProcess_of_full h)
  · exact drainList_of_cannot _ (canProcess_of_awaiting h)

/-- Settles O12. -/
theorem receiverFramesCharacters : Obligations.ReceiverFramesCharacters := by
  unfold Obligations.ReceiverFramesCharacters
  have hexec (cs : List Byte) (s : State) :
      exec (.hostFrameReceived cs) s = .next { s with dev := (s.dev.receive cs).settle } := rfl
  have hlong (kind tag n : Byte) (s : State) : exec (.payloadLengthAbove240 kind tag n) s =
      .next { s with dev := (s.dev.receive [kind, tag, n]).settle } := rfl
  refine ⟨fun f s hlen h => ?valid, fun kind tag n rest s h hn hlen hread => ?invalid, fun cs s h => ?discarding,
    fun s => rfl, fun kind tag n s h hn => ?long, fun kind tag n s h => ?ignored,
    fun d f => ⟨takeIn_of_full f, takeIn_of_room f⟩, fun d => ⟨drain_of_cannot, fun f => drain_of_one⟩⟩
  case valid =>
    have hn : (BitVec.ofNat 8 f.payload.length).toNat = f.payload.length := by
      rw [BitVec.toNat_ofNat]
      omega
    have hbytes : HostFrame.read (codeHostKind f.kind :: f.tag :: BitVec.ofNat 8 f.payload.length ::
        (f.payload ++ wordBytes (crc16 (codeHostKind f.kind :: f.tag :: BitVec.ofNat 8 f.payload.length ::
          f.payload)))) = some f := HostFrame.read_bytes f
    have hreceive := receive_frame s.dev (codeHostKind f.kind) f.tag (BitVec.ofNat 8 f.payload.length)
      (f.payload ++ wordBytes (crc16 (codeHostKind f.kind :: f.tag :: BitVec.ofNat 8 f.payload.length :: f.payload)))
      h (by omega) (by rw [hn]; simp [wordBytes])
    have hidle : s.dev.setReceiver .idle = s.dev := setReceiver_of_eq h
    rw [hexec]
    refine (congrArg (fun d : Device => Host.Outcome.next { s with dev := d.settle }) hreceive).trans ?_
    rw [Device.frameComplete, hbytes]
    show Host.Outcome.next { s with dev := (((s.dev.setReceiver .idle).hostHeard.takeIn f).drain).settle } = _
    rw [hidle]
    rfl
  case invalid =>
    rw [hexec, receive_frame s.dev kind tag n rest h hn hlen, Device.frameComplete, hread]
    rfl
  case discarding =>
    rw [hexec, receive_of_discarding cs h]
    rfl
  case long =>
    rw [hlong, receive_of_long kind tag n h hn]
    rfl
  case ignored =>
    rw [hlong, receive_of_discarding _ h]
    rfl

end Sys2Proof.Machine

/-! ### Line commands (O15, O16, O17, O18, O19) -/

namespace Sys2Proof.Machine

/-! #### From a result to the machine's answer -/

/-- The machine after a request is answered with a result. -/
def State.replied (s : State) (tag : Byte) (kind : HostKind) (code : Byte) (res : Result) : State :=
  s.answered (res.reply tag kind code) res.dev

/-- A command of the host on a ready part: its result, answered. -/
theorem exec_replied {c : Instr} {tag : Byte} {r : Request} {code : Byte} {s₀ : State}
    (h : hostRequest c = some (tag, r)) (hcode : r.code = some code) (hs : s₀.dev.ready) :
    exec c s₀ = .next (s₀.heard.replied tag r.kind code (s₀.heard.dev.perform tag r)) :=
  exec_of_ready c tag r code s₀ h hcode hs

/-- A list of checks, and what an operation makes where all of them pass. -/
def Device.checked (d : Device) (checks : List (Bool × ReplyStatus)) (res : Result) : Result :=
  match firstFailure checks with
  | some st => refuse d st
  | none => res

section Replied
variable {s : State} {tag : Byte} {kind : HostKind} {code : Byte}

theorem replied_checked_cons {d : Device} {b : Bool} {st : ReplyStatus} {cs : List (Bool × ReplyStatus)} {res : Result}
    {P : Prop} {_ : Decidable P} {X : State} (hb : b = false ↔ P)
    (hX : ¬P → s.replied tag kind code (d.checked cs res) = X) :
    s.replied tag kind code (d.checked ((b, st) :: cs) res) =
      if P then s.replied tag kind code (refuse d st) else X := by
  unfold Device.checked at hX ⊢
  rw [firstFailure_cons]
  by_cases hP : P
  · rw [if_pos hP, hb.mpr hP]
    rfl
  · rw [if_neg hP, if_pos (Bool.eq_true_of_not_eq_false (hP ∘ hb.mp)), hX hP]

theorem checked_nil (d : Device) (res : Result) : d.checked [] res = res := rfl

theorem replied_ite {P Q : Prop} {_ : Decidable P} {_ : Decidable Q} {a b : Result} {X Y : State} (hPQ : P ↔ Q)
    (hX : Q → s.replied tag kind code a = X) (hY : ¬Q → s.replied tag kind code b = Y) :
    s.replied tag kind code (if P then a else b) = if Q then X else Y := by
  by_cases hQ : Q
  · rw [if_pos hQ, if_pos (hPQ.mpr hQ), hX hQ]
  · rw [if_neg hQ, if_neg (hQ ∘ hPQ.mp), hY hQ]

end Replied

/-! #### The conditions of the checks -/

theorem LineRecord.assigned_eq_false_iff (r : LineRecord) : r.assigned = false ↔ r.binding = none := by
  rw [LineRecord.assigned, Option.isSome_eq_false_iff, Option.isNone_iff_eq_none]

theorem decide_eq_false_iff_ne {α : Type} [DecidableEq α] (a b : α) : decide (a = b) = false ↔ a ≠ b :=
  decide_eq_false_iff_not

theorem isNone_eq_false_iff {α : Type} (o : Option α) : o.isNone = false ↔ o.isSome = true := by
  cases o <;> simp

theorem LineRecord.tendable_eq_false_iff (r : LineRecord) :
    r.tendable = false ↔ r.state ≠ .locked ∨ r.band = .critical ∨ r.sensor = .open_ := by
  simp only [LineRecord.tendable, Bool.and_eq_false_iff, decide_eq_false_iff_not, ne_eq, not_not, or_assoc]

theorem PostedVerb.takenIn_eq_false_iff (v : PostedVerb) (x : LineState) :
    v.takenIn x = false ↔ ¬(x = .locked ∨ (v = .hold ∧ x = .tending)) := by
  cases v <;> cases x <;> decide

theorem ConfirmedVerb.takenIn_fault (v : ConfirmedVerb) : v.takenIn .fault = false := by
  cases v <;> rfl

theorem eligible_of_binding {d : Device} {i : LineId} {b : Binding} (h : d.lines[i].binding = some b) :
    d.eligible i = d.stations[b.station].available := by
  simp only [Device.eligible, h]

/-! #### A line's state, written -/

theorem setState_of_not_leaving {d : Device} {i : LineId} {x : LineState}
    (h : d.lines[i].state ≠ .tending ∨ x = .tending) :
    d.setState i x = d.setLine i { d.lines[i] with state := x } :=
  if_neg fun hleave => h.elim (absurd hleave.1) hleave.2

theorem setState_of_leaving {d : Device} {i : LineId} {x : LineState} (h : d.lines[i].state = .tending)
    (hx : x ≠ .tending) : d.setState i x = (d.setLine i { d.lines[i] with state := x }).removeTend i :=
  if_pos ⟨h, hx⟩

/-! #### TEND ON and TEND OFF (R46, R47) -/

theorem tendOn_eq (d : Device) (i : LineId) :
    d.tendOn i = d.checked [(d.lines[i].assigned, .notAssigned), (decide (d.lines[i].owner = .quay), .localControl),
        (d.eligible i, .stationUnavailable), ((d.liveSlot i).isNone, .lineBusy), (d.lines[i].tendable, .badState)]
      (accept ((d.setState i .tending).updLine i fun r => { r with lengthLimit := false })) := rfl

theorem tendOff_eq (d : Device) (i : LineId) :
    d.tendOff i = d.checked [(d.lines[i].assigned, .notAssigned), (decide (d.lines[i].owner = .quay), .localControl),
        (decide (d.lines[i].state = .tending), .badState)] (accept (d.setState i .locked)) := rfl

theorem tendOn_effect (d : Device) (i : LineId) : (d.setState i .tending).updLine i (fun r => { r with lengthLimit := false }) =
    d.setLine i { d.lines[i] with state := .tending, lengthLimit := false } := by
  rw [setState_of_not_leaving (.inr rfl), setLine_updLine]

/-- Settles O15: the five checks in their order, and the one record written. -/
theorem tendOnChecksAndEffect : Obligations.TendOnChecksAndEffect := by
  unfold Obligations.TendOnChecksAndEffect
  intro tag line arg s₀ hs s
  rw [exec_replied (tag := tag) (r := .line .tendOn line arg) rfl rfl hs]
  refine congrArg Host.Outcome.next ?_
  show s.replied tag .lineCommand _ (s.dev.lineCommand .tendOn line tag arg) = _
  unfold Device.lineCommand
  cases id16 line with
  | none => rfl
  | some i =>
    dsimp only
    rw [tendOn_eq]
    refine replied_checked_cons (LineRecord.assigned_eq_false_iff _) fun _ =>
      replied_checked_cons (decide_eq_false_iff_ne _ _) fun _ => replied_checked_cons Iff.rfl fun _ =>
      replied_checked_cons (isNone_eq_false_iff _) fun _ => replied_checked_cons (LineRecord.tendable_eq_false_iff _) fun _ => ?_
    rw [checked_nil, tendOn_effect]
    rfl

/-- Settles O16. -/
theorem tendOffChecksAndEffect : Obligations.TendOffChecksAndEffect := by
  unfold Obligations.TendOffChecksAndEffect
  intro tag line arg s₀ hs s
  rw [exec_replied (tag := tag) (r := .line .tendOff line arg) rfl rfl hs]
  refine congrArg Host.Outcome.next ?_
  show s.replied tag .lineCommand _ (s.dev.lineCommand .tendOff line tag arg) = _
  unfold Device.lineCommand
  cases id16 line with
  | none => rfl
  | some i =>
    dsimp only
    rw [tendOff_eq]
    refine replied_checked_cons (LineRecord.assigned_eq_false_iff _) fun _ =>
      replied_checked_cons (decide_eq_false_iff_ne _ _) fun _ => replied_checked_cons (decide_eq_false_iff_ne _ _) fun h => ?_
    rw [checked_nil, setState_of_leaving (not_not.mp h) LineState.noConfusion]
    rfl

/-! #### Posted commands (R61, R62, R17) -/

theorem PostedVerb.argument_eq (v : PostedVerb) (a : Word16) :
    v.argument a = if v = .hold then 0 else if a.toNat = 0 then 1 else a.toNat := by
  cases v
  case hold => rfl
  all_goals
    show max 1 a.toNat = if a.toNat = 0 then 1 else a.toNat
    split <;> omega

/-- What a posted command leaves where every check passes (R62, R17). -/
def Device.posted (d : Device) (i : LineId) (b : Binding) (v : PostedVerb) (arg : Nat) : Device :=
  if v = .hold then (d.enterPosted i b v arg).endTending i else d.enterPosted i b v arg

/-- The result of a posted command: CLAMPED where a step of 0 became 1. -/
def Device.postResult (d : Device) (i : LineId) (b : Binding) (v : PostedVerb) (a : Word16) : Result :=
  if v ≠ .hold ∧ a.toNat = 0 then
    { dev := d.posted i b v (v.argument a), status := .clamped, data := byte2 (v.argument a) }
  else accept (d.posted i b v (v.argument a))

theorem post_of_unassigned {d : Device} {i : LineId} (v : PostedVerb) (a : Word16) (h : d.lines[i].binding = none) :
    d.post i v a = refuse d .notAssigned := by
  have hassigned := (LineRecord.assigned_eq_false_iff _).mpr h
  unfold Device.post Device.postedChecks Device.commonChecks
  rw [List.cons_append, firstFailure_cons, hassigned]
  rfl

theorem post_of_binding {d : Device} {i : LineId} {b : Binding} (v : PostedVerb) (a : Word16)
    (h : d.lines[i].binding = some b) :
    d.post i v a = d.checked [(decide (d.lines[i].owner = .quay), .localControl),
      (d.stations[b.station].available, .stationUnavailable), (v.takenIn d.lines[i].state, .badState),
      (decide (d.bridge.posted.length < 8), .full)] (d.postResult i b v a) := by
  have hassigned : d.lines[i].assigned = true := by rw [LineRecord.assigned, h, Option.isSome_some]
  unfold Device.post Device.postedChecks Device.commonChecks Device.checked
  rw [eligible_of_binding h, List.cons_append, firstFailure_cons, if_pos hassigned, h]
  dsimp only [List.cons_append, List.nil_append]
  cases firstFailure _ <;> rfl

/-- Only HOLD takes a line from TENDING (R12, R17). -/
theorem posted_eq {d : Device} {i : LineId} {v : PostedVerb} (b : Binding) (arg : Nat)
    (h : d.lines[i].state = .locked ∨ (v = .hold ∧ d.lines[i].state = .tending)) :
    d.posted i b v arg = if d.lines[i].state = .tending then
      ((d.enterPosted i b v arg).setLine i { d.lines[i] with state := .locked }).removeTend i
    else d.enterPosted i b v arg := by
  unfold Device.posted
  obtain hlocked | ⟨rfl, htending⟩ := h
  · have hno : d.lines[i].state ≠ .tending := by
      rw [hlocked]
      exact LineState.noConfusion
    have hend : (d.enterPosted i b v arg).endTending i = d.enterPosted i b v arg := if_neg hno
    rw [if_neg hno, hend, ite_self]
  · rw [if_pos rfl, if_pos htending]
    exact (if_pos htending).trans (setState_of_leaving htending LineState.noConfusion)

/-- Settles O17. -/
theorem postedCommandsChecksAndEffect : Obligations.PostedCommandsChecksAndEffect := by
  unfold Obligations.PostedCommandsChecksAndEffect
  intro v tag line arg s₀ hs s
  rw [exec_replied (c := v.command tag line arg) (tag := tag) (r := .line v.verb line arg) (by cases v <;> rfl) rfl hs]
  refine congrArg Host.Outcome.next ?_
  have hperform : s.dev.perform tag (.line v.verb line arg) =
      match id16 line with
      | none => refuse s.dev .badArgument
      | some i => s.dev.post i v arg := by cases v <;> rfl
  show s.replied tag .lineCommand (codeLineVerb v.verb) (s.dev.perform tag (.line v.verb line arg)) = _
  rw [hperform]
  cases id16 line with
  | none => rfl
  | some i =>
    dsimp only
    cases hb : s.dev.lines[i].binding with
    | none =>
      rw [post_of_unassigned v arg hb]
      rfl
    | some b =>
      rw [post_of_binding v arg hb]
      refine replied_checked_cons (decide_eq_false_iff_ne _ _) fun _ => replied_checked_cons Iff.rfl fun _ =>
        replied_checked_cons (PostedVerb.takenIn_eq_false_iff _ _) fun hstate =>
        replied_checked_cons (by rw [decide_eq_false_iff_not, not_lt]) fun _ => ?_
      rw [checked_nil, Device.postResult, posted_eq b _ (not_not.mp hstate), PostedVerb.argument_eq, ← hb]
      refine replied_ite Iff.rfl (fun hclamped => ?_) fun _ => rfl
      rw [if_neg hclamped.1, if_pos hclamped.2]
      rfl

/-! #### Confirmed commands (R67, R68, R69) -/

theorem perform_confirmed (d : Device) (v : ConfirmedVerb) (tag line : Byte) (arg : Word16) :
    d.perform tag (.line v.verb line arg) =
      match id16 line with
      | none => refuse d .badArgument
      | some i => d.confirm i v tag arg := by
  cases v <;> rfl

theorem confirm_of_match {d : Device} {i : LineId} {v : ConfirmedVerb} {tag : Byte} {a : Word16} {k : SlotId}
    (h : d.matchingSlot i v tag a = some k) : d.confirm i v tag a = d.collect k := by
  simp only [Device.confirm, h]

theorem Slot.resultData_eq (x : Slot) :
    x.resultData = (x.result.map codeResult).toList ++
      [match x.action with | some a => BitVec.ofNat 8 a.val | none => 255, BitVec.ofNat 8 x.attempts] := by
  rw [Slot.resultData, List.append_assoc]
  cases x.action <;> rfl

/-- Settles O18: the search for the slot finds the first that matches. -/
theorem confirmedRepeatIsAnsweredFromItsSlot : Obligations.ConfirmedRepeatIsAnsweredFromItsSlot := by
  unfold Obligations.ConfirmedRepeatIsAnsweredFromItsSlot
  intro v tag line arg i k s₀ hs s hline hk hfirst
  have hmatch : s.dev.matchingSlot i v tag arg = some k :=
    find?_lowest allSlots_pairwise (mem_allSlots k) hk fun j _ hj => hfirst j hj
  rw [exec_replied (c := v.command tag line arg) (tag := tag) (r := .line v.verb line arg) (by cases v <;> rfl) rfl hs,
    perform_confirmed, hline]
  refine congrArg Host.Outcome.next ?_
  dsimp only
  rw [confirm_of_match hmatch]
  refine replied_ite Iff.rfl (fun _ => rfl) fun _ => ?_
  rw [Slot.resultData_eq]
  rfl

/-- The last check of a list, taken off it. -/
theorem firstFailure_append_one (cs : List (Bool × ReplyStatus)) (b : Bool) (st : ReplyStatus) :
    firstFailure (cs ++ [(b, st)]) = (firstFailure cs).or (if b then none else some st) := by
  unfold firstFailure
  rw [List.findSome?_append, List.findSome?_cons, List.findSome?_nil]
  cases b <;> rfl

/-- The result of a confirmed command that fills slot `k` (R69). -/
def Device.confirmResult (d : Device) (k : SlotId) (i : LineId) (v : ConfirmedVerb) (tag : Byte) (a : Word16) : Result :=
  if v = .runOut ∧ d.lines[i].config.maxLength < a.toNat then
    { dev := d.fillSlot k i v tag a, status := .clamped, data := byte2 (d.lines[i].config.sentArgument v a) }
  else
    { dev := d.fillSlot k i v tag a, status := .wait, data := (d.fillSlot k i v tag a).bridge.slots[k].waitData }

/-- R68, with the search for a free slot as the last check. -/
theorem confirm_of_no_match {d : Device} {i : LineId} {v : ConfirmedVerb} {tag : Byte} {a : Word16}
    (h : d.matchingSlot i v tag a = none) :
    d.confirm i v tag a = d.checked [(d.lines[i].assigned, .notAssigned),
        (decide (d.lines[i].owner = .quay), .localControl), (d.eligible i, .stationUnavailable),
        ((d.liveSlot i).isNone, .lineBusy), (v.takenIn d.lines[i].state, .badState)]
      (match d.freeSlot with
        | none => refuse d .full
        | some k => d.confirmResult k i v tag a) := by
  have hchecks : d.confirmedChecks i v = [(d.lines[i].assigned, .notAssigned),
        (decide (d.lines[i].owner = .quay), .localControl), (d.eligible i, .stationUnavailable),
        ((d.liveSlot i).isNone, .lineBusy), (v.takenIn d.lines[i].state, .badState)] ++
      [(d.freeSlot.isSome, .full)] := rfl
  unfold Device.confirm Device.checked
  simp only [h]
  rw [hchecks, firstFailure_append_one]
  cases firstFailure _ with
  | some st => rfl
  | none => cases d.freeSlot <;> rfl

theorem LineConfig.sentArgument_eq (c : LineConfig) (v : ConfirmedVerb) (a : Word16) :
    c.sentArgument v a = match v with
      | .runOut => if c.maxLength < a.toNat then c.maxLength else a.toNat
      | .rewind => c.stow
      | .lock | .release => 0 := by
  cases v
  case runOut =>
    show min a.toNat c.maxLength = if c.maxLength < a.toNat then c.maxLength else a.toNat
    split <;> omega
  all_goals rfl

/-- The slot of an accepted command (R69). -/
def Device.filledSlot (d : Device) (i : LineId) (v : ConfirmedVerb) (tag : Byte) (a : Word16) : Slot :=
  { state := .queued,
    command := some { line := i, verb := v, tag := tag, requested := a,
                      sentArg := d.lines[i].config.sentArgument v a, prior := d.lines[i].state,
                      order := d.bridge.nextOrder } }

/-- The part with slot `k` filled, its line not yet moved. -/
def Device.withSlot (d : Device) (k : SlotId) (x : Slot) : Device :=
  { d with bridge := { d.bridge with slots := put d.bridge.slots k x, nextOrder := d.bridge.nextOrder + 1 } }

theorem ConfirmedVerb.transitional_ne_tending (v : ConfirmedVerb) : v.transitional ≠ .tending := by
  cases v <;> decide

theorem fillSlot_eq (d : Device) (k : SlotId) (i : LineId) (v : ConfirmedVerb) (tag : Byte) (a : Word16) :
    d.fillSlot k i v tag a =
      if d.lines[i].state = .tending then
        ((d.withSlot k (d.filledSlot i v tag a)).setLine i { d.lines[i] with state := v.transitional }).removeTend i
      else (d.withSlot k (d.filledSlot i v tag a)).setLine i { d.lines[i] with state := v.transitional } := by
  show (d.withSlot k (d.filledSlot i v tag a)).setState i v.transitional = _
  by_cases h : d.lines[i].state = .tending
  · rw [if_pos h]
    exact setState_of_leaving h v.transitional_ne_tending
  · rw [if_neg h]
    exact setState_of_not_leaving (.inl h)

theorem fillSlot_slot (d : Device) (k : SlotId) (i : LineId) (v : ConfirmedVerb) (tag : Byte) (a : Word16) :
    (d.fillSlot k i v tag a).bridge.slots[k] = d.filledSlot i v tag a := by
  show ((d.withSlot k (d.filledSlot i v tag a)).setState i v.transitional).bridge.slots[k] = _
  rw [(setState_written _ i v.transitional).bridge]
  exact put_get_self _ _ _

/-- Settles O19: the checks of R68, then the slot and the line as `fillSlot_eq` writes them. -/
theorem confirmedCommandsChecksAndEffect : Obligations.ConfirmedCommandsChecksAndEffect := by
  unfold Obligations.ConfirmedCommandsChecksAndEffect
  refine ⟨?command, ?runOut, ?lock, ?release, ?rewind, rfl, rfl, rfl, rfl, rfl, rfl, rfl, rfl⟩
  case command =>
    intro v tag line arg s₀ hs s hno
    rw [exec_replied (c := v.command tag line arg) (tag := tag) (r := .line v.verb line arg) (by cases v <;> rfl) rfl hs,
      perform_confirmed]
    refine congrArg Host.Outcome.next ?_
    cases hline : id16 line with
    | none => rfl
    | some i =>
      have hmatch : s.dev.matchingSlot i v tag arg = none :=
        List.find?_eq_none.mpr fun k _ => Bool.not_eq_true _ ▸ hno i k hline
      dsimp only
      rw [confirm_of_no_match hmatch]
      refine replied_checked_cons (LineRecord.assigned_eq_false_iff _) fun _ =>
        replied_checked_cons (decide_eq_false_iff_ne _ _) fun _ => replied_checked_cons Iff.rfl fun _ =>
        replied_checked_cons (isNone_eq_false_iff _) fun _ => replied_checked_cons Iff.rfl fun _ => ?_
      rw [checked_nil]
      cases s.dev.freeSlot with
      | none => rfl
      | some k =>
        dsimp only
        rw [Device.confirmResult, fillSlot_slot, fillSlot_eq, Device.filledSlot, LineConfig.sentArgument_eq]
        refine replied_ite Iff.rfl (fun hclamped => ?_) fun _ => rfl
        obtain ⟨rfl, hlong⟩ := hclamped
        dsimp only
        rw [if_pos hlong]
        rfl
  case runOut =>
    intro st
    simp [ConfirmedVerb.takenIn]
  case lock =>
    intro st
    simp [ConfirmedVerb.takenIn]
  case release =>
    intro st
    cases st <;> decide
  case rewind =>
    intro st
    simp [ConfirmedVerb.takenIn]

end Sys2Proof.Machine

/-! ### Management of lines (O21, O22, O23, O24, O25, O26, O27, O28) -/

namespace Sys2Proof.Machine

/-! #### Clamped values and their answers (R2, R165) -/

theorem clamp_of_zero (hi n : Nat) : clamp 0 hi n = min hi n := by
  unfold clamp
  rw [if_neg (Nat.not_lt_zero n)]
  split <;> omega

theorem clamp_of_one {hi : Nat} (h : 1 ≤ hi) (n : Nat) : clamp 1 hi n = max 1 (min hi n) := by
  unfold clamp
  split
  · omega
  · split <;> omega

theorem changedValue_iff (n : Nat) (w : Word16) : changedValue (n, w) = true ↔ n ≠ w.toNat := decide_eq_true_iff

section Answers
variable {s : State} {tag : Byte} {kind : HostKind} {code : Byte}

/-- An operation applied with its clamped values is answered by whether one of them changed. -/
theorem replied_applied {d : Device} {changed : Bool} {data : List Byte} {P : Prop} {_ : Decidable P} {X Y : State}
    (hP : changed = true ↔ P) (hX : s.replied tag kind code { dev := d, status := .clamped, data := data } = X)
    (hY : s.replied tag kind code (accept d) = Y) :
    s.replied tag kind code (applied d changed data) = if P then X else Y :=
  replied_ite hP (fun _ => hX) fun _ => hY

theorem replied_accept (d : Device) : s.replied tag .management code (accept d) = s.opAnswer code tag d .ok := rfl

end Answers

/-! #### CLEAR FAULT (R20) and ABORT LINE (R77, R78) -/

/-- Settles O27. -/
theorem clearFaultChecksAndEffect : Obligations.ClearFaultChecksAndEffect := by
  unfold Obligations.ClearFaultChecksAndEffect
  intro tag line s₀ hs s
  rw [exec_replied (tag := tag) (r := .clearFault line) rfl rfl hs]
  refine congrArg Host.Outcome.next ?_
  show s.replied tag .management 0x07 (s.dev.clearFault line) = _
  unfold Device.clearFault
  cases id16 line with
  | none => rfl
  | some i =>
    dsimp only
    rw [← ite_not]
    exact replied_ite Iff.rfl (fun _ => rfl) fun _ => rfl

theorem placeStop_eq (d : Device) (st : StationId) (drum : Drum) : d.placeStop st drum =
    if ∃ x ∈ d.bus.stationSource, x.station = st ∧ x.frame = .stop drum then d
    else { d with bus := { d.bus with
      stationSource := d.bus.stationSource ++ [{ station := st, frame := .stop drum, attempts := 0 }] } } := by
  refine if_congr ?_ rfl rfl
  simp only [List.any_eq_true, decide_eq_true_eq]

/-- The end of a slot leaves every line's binding alone. -/
theorem endSlot_binding (d : Device) (k : SlotId) (res : SlotResult) (i : LineId) :
    (d.endSlot k res).lines[i].binding = d.lines[i].binding := by
  have h := congrArg LineRecord.binding ((endSlot_work d k res).lines i)
  exact h

/-- Settles O28. -/
theorem abortLineChecksAndEffect : Obligations.AbortLineChecksAndEffect := by
  unfold Obligations.AbortLineChecksAndEffect
  intro tag line s₀ hs s
  rw [exec_replied (tag := tag) (r := .abortLine line) rfl rfl hs]
  refine congrArg Host.Outcome.next ?_
  show s.replied tag .management 0x08 (s.dev.abortLine line) = _
  unfold Device.abortLine
  cases id16 line with
  | none => rfl
  | some i =>
    dsimp only
    cases s.dev.liveSlot i with
    | none => rfl
    | some k =>
      dsimp only
      rw [endSlot_binding]
      cases s.dev.lines[i].binding with
      | none => cases s.dev.bridge.slots[k].state <;> rfl
      | some b =>
        cases s.dev.bridge.slots[k].state with
        | queued => rfl
        | free | issued | awaiting | complete =>
          dsimp only
          rw [if_pos (by decide), placeStop_eq]
          split <;> rfl

/-! #### ASSIGN LINE (R6) and UNASSIGN LINE (R7) -/

/-- Settles O21. -/
theorem assignLineChecksAndEffect : Obligations.AssignLineChecksAndEffect := by
  unfold Obligations.AssignLineChecksAndEffect
  intro tag line station drum group s₀ hs s
  rw [exec_replied (tag := tag) (r := .assignLine line station drum group) rfl rfl hs]
  refine congrArg Host.Outcome.next ?_
  show s.replied tag .management 0x01 (s.dev.assignLine line station drum group) = _
  unfold Device.assignLine
  cases id16 line with
  | none => rfl
  | some i =>
    dsimp only
    refine replied_ite Iff.rfl (fun _ => rfl) fun _ => ?_
    cases id16 station with
    | none => rfl
    | some st =>
      cases drumOfCode drum with
      | none => rfl
      | some dr =>
        cases idBelow 4 group with
        | none => rfl
        | some g =>
          dsimp only
          rw [updLine_eq, LineRecord.assign]
          refine replied_ite Iff.rfl (fun _ => rfl) fun _ => ?_
          rw [replied_accept]

theorem queueEvents_quay_congr {d d' : Device} (h : d'.quay = d.quay) (es : List Event) :
    (d'.queueEvents es).quay = (d.queueEvents es).quay := by
  unfold Device.queueEvents
  induction es generalizing d d' with
  | nil => exact h
  | cons e es ih => exact ih (queueEvent_quay_congr h e)

/-- Events change the Quay Port alone. -/
theorem queueEvents_eq (d : Device) (es : List Event) :
    d.queueEvents es = { d with quay := (d.queueEvents es).quay } := by
  unfold Device.queueEvents
  induction es generalizing d with
  | nil => rfl
  | cons e es ih =>
    rw [List.foldl_cons, ih]
    rfl

theorem detach_bus_of_owner {d : Device} {o : FrameOwner} {x : Exchange} (hx : d.bus.exchange = some x)
    (ho : x.owner = o) : (d.detach o).bus = { d.bus with exchange := some { x with detached := true } } := by
  simp only [Device.detach, hx, if_pos ho]

/-- The part with the posted entries of a test removed and, where one of them was SENT, its exchange detached. -/
def Device.posteds (d : Device) (p : PostedEntry → Bool) : Device :=
  if (d.bridge.posted.filter p).any (fun x => x.sent) then
    { d with bridge := { d.bridge with posted := d.bridge.posted.filter fun x => !p x } }.detach .posted
  else { d with bridge := { d.bridge with posted := d.bridge.posted.filter fun x => !p x } }

theorem posteds_eq (d : Device) (p : PostedEntry → Bool) : d.posteds p =
    { d with bridge := { d.bridge with posted := d.bridge.posted.filter fun x => !p x }, bus := (d.posteds p).bus } := by
  unfold Device.posteds
  split
  · rw [detach_eq]
  · rfl

theorem any_sent_iff (l : List PostedEntry) (p : PostedEntry → Bool) :
    (l.filter p).any (fun x => x.sent) = true ↔ ∃ y ∈ l, p y = true ∧ y.sent = true := by
  simp only [List.any_eq_true, List.mem_filter, and_assoc]

theorem LineState.safe_iff (x : LineState) : x.safe = true ↔ x = .stowed ∨ x = .ready ∨ x = .released ∨ x = .fault := by
  cases x <;> decide

theorem isOpenTarget_iff (d : Device) (i : LineId) : d.isOpenTarget i = true ↔
    ∃ r ∈ d.trig.actions, ∃ t ∈ r.targets, t.line = i ∧ (t.state = .waiting ∨ t.state = .sent) := by
  simp only [Device.isOpenTarget, Target.open_, List.any_eq_true, Bool.and_eq_true, Bool.or_eq_true, decide_eq_true_eq,
    and_comm]

/-- Settles O22. -/
theorem unassignLineChecksAndEffect : Obligations.UnassignLineChecksAndEffect := by
  unfold Obligations.UnassignLineChecksAndEffect
  refine ⟨?removal, ?command⟩
  case removal =>
    intro d p why t
    have ht : t = (d.posteds p).queueEvents ((d.bridge.posted.filter p).map fun y => y.undelivered why) := rfl
    have hquay : (d.posteds p).quay = d.quay := by rw [posteds_eq]
    have hbus : t.bus = (d.posteds p).bus := by rw [ht, queueEvents_eq]
    rw [queueEvents_eq, posteds_eq] at ht
    refine ⟨by rw [ht], ?_, fun hunsent => ?_, fun x hx ho hsent => ?_, by rw [ht], by rw [ht], by rw [ht], by rw [ht],
      by rw [ht]⟩
    · exact queueEvents_quay_congr hquay _
    · rw [hbus, Device.posteds, if_neg]
      rw [any_sent_iff]
      rintro ⟨y, hy, hpy, hsent⟩
      exact Bool.false_ne_true ((hunsent y hy hpy).symm.trans hsent)
    · rw [hbus, Device.posteds, if_pos ((any_sent_iff _ _).mpr hsent)]
      exact detach_bus_of_owner hx ho
  case command =>
    intro tag line s₀ hs s
    rw [exec_replied (tag := tag) (r := .unassignLine line) rfl rfl hs]
    refine congrArg Host.Outcome.next ?_
    show s.replied tag .management 0x02 (s.dev.unassignLine line) = _
    unfold Device.unassignLine
    cases id16 line with
    | none => rfl
    | some i =>
      dsimp only
      rw [updLine_eq, LineRecord.unassign, Device.clearFresh]
      refine replied_ite (not_congr (LineState.safe_iff _)) (fun _ => rfl) fun _ => ?_
      refine replied_ite ?_ (fun _ => rfl) fun _ => ?_
      · rw [isOpenTarget_iff]
      rw [replied_accept]

/-! #### The three loads (R3, R4, R5) -/

/-- Settles O23. -/
theorem loadEnvelopeChecksAndEffect : Obligations.LoadEnvelopeChecksAndEffect := by
  unfold Obligations.LoadEnvelopeChecksAndEffect
  intro tag line sl lo hi al cr hy p n s₀ hs s
  rw [exec_replied (tag := tag) (r := .loadEnvelope line sl lo hi al cr hy p n) rfl rfl hs]
  refine congrArg Host.Outcome.next ?_
  show s.replied tag .management 0x03 (s.dev.loadEnvelope line sl lo hi al cr hy p n) = _
  unfold Device.loadEnvelope LineConfig.loadEnvelope
  cases id16 line with
  | none => rfl
  | some i =>
    dsimp only
    rw [clamp_of_zero, clamp_of_one (by decide), clamp_of_one (by decide), ite_not]
    refine replied_ite Iff.rfl (fun _ => replied_applied ?changed rfl rfl) fun _ => rfl
    case changed => simp only [List.any_cons, List.any_nil, Bool.or_false, Bool.or_eq_true, changedValue_iff]

theorem calibrateSensor_eq (d : Device) (i : LineId) (r : LineRecord) (held loaded : CableCheck) :
    (d.setLine i r).calibrateSensor i held loaded =
      if held ≠ loaded ∨ loaded = .none then
        if r.sensor = .open_ then
          { (d.setLine i { r with sensor := .ok }).queueEvent
              (.sensorRestored i (Config.loadRestoredRaw d.freeCount).toNat) with freeCount := d.freeCount + 1 }
        else d.setLine i { r with sensor := .ok }
      else d.setLine i r := by
  unfold Device.calibrateSensor
  rw [setLine_line_self, setLine_updLine]
  rfl

/-- Settles O24. -/
theorem loadCalibrationChecksAndEffect : Obligations.LoadCalibrationChecksAndEffect := by
  unfold Obligations.LoadCalibrationChecksAndEffect
  intro tag line z sp k cable s₀ hs s
  rw [exec_replied (tag := tag) (r := .loadCalibration line z sp k cable) rfl rfl hs]
  refine congrArg Host.Outcome.next ?_
  show s.replied tag .management 0x04 (s.dev.loadCalibration line z sp k cable) = _
  unfold Device.loadCalibration LineConfig.loadCalibration
  cases id16 line with
  | none => rfl
  | some i =>
    cases cableOfCode cable with
    | none => rfl
    | some cc =>
      dsimp only
      rw [updLine_eq, calibrateSensor_eq, clamp_of_zero, clamp_of_one (by decide), clamp_of_zero]
      refine replied_applied ?changed rfl rfl
      case changed => simp only [List.any_cons, List.any_nil, Bool.or_false, Bool.or_eq_true, changedValue_iff]

/-- Settles O25. -/
theorem loadLimitsChecksAndEffect : Obligations.LoadLimitsChecksAndEffect := by
  unfold Obligations.LoadLimitsChecksAndEffect
  intro tag line st mn mx ts ro rw' lk rl dv s₀ hs s
  rw [exec_replied (tag := tag) (r := .loadLimits line st mn mx ts ro rw' lk rl dv) rfl rfl hs]
  refine congrArg Host.Outcome.next ?_
  show s.replied tag .management 0x05 (s.dev.loadLimits line st mn mx ts ro rw' lk rl dv) = _
  unfold Device.loadLimits LineConfig.loadLimits
  cases id16 line with
  | none => rfl
  | some i =>
    dsimp only
    rw [clamp_of_zero]
    simp only [clamp_of_one (show 1 ≤ 255 by decide)]
    rw [← ite_not]
    refine replied_ite not_le (fun _ => rfl) fun _ => replied_applied ?changed rfl rfl
    case changed => simp only [List.any_cons, List.any_nil, Bool.or_false, Bool.or_eq_true, changedValue_iff]

end Sys2Proof.Machine

/-! ### The reads (O26) -/

namespace Sys2Proof.Machine

theorem PollEntry.data_eq (p : PollEntry) : p.data = match p with
    | .line i sweep followUp => [0, idByte i, BitVec.ofNat 8 ((if sweep then 1 else 0) + (if followUp then 2 else 0))]
    | .probe st => [1, idByte st, 0] := by
  cases p with
  | line i sweep followUp => cases sweep <;> cases followUp <;> rfl
  | probe st => rfl

/-- Settles O26: the answers first, then each layout, its pieces joined from the right on both sides. -/
theorem readsAnswerAndChangeNothing : Obligations.ReadsAnswerAndChangeNothing := by
  unfold Obligations.ReadsAnswerAndChangeNothing
  refine ⟨?readLine, ?readTrigger, ?readScan, ?readStatus, ?opt, ?line, ?trigger, ?scan, ?status, ?station, rfl,
    fun _ => rfl, rfl, rfl, rfl, rfl, rfl, rfl, rfl, rfl, rfl, rfl, rfl, rfl, rfl, rfl, rfl, rfl⟩
  case readLine =>
    intro tag line s₀ hs s
    rw [exec_replied (tag := tag) (r := .readLine line) rfl rfl hs]
    refine congrArg Host.Outcome.next ?_
    show s.replied tag .management 0x06 (s.dev.readLine line) = _
    unfold Device.readLine
    cases id16 line <;> rfl
  case readTrigger =>
    intro tag entry s₀ hs s
    rw [exec_replied (tag := tag) (r := .readTrigger entry) rfl rfl hs]
    refine congrArg Host.Outcome.next ?_
    show s.replied tag .management 0x11 (s.dev.readTrigger entry) = _
    unfold Device.readTrigger
    cases idBelow 12 entry <;> rfl
  case readScan =>
    intro tag s₀ hs s
    exact exec_replied (tag := tag) (r := .readScan) rfl rfl hs
  case readStatus =>
    intro tag part s₀ hs s
    rw [exec_replied (tag := tag) (r := .readStatus part) rfl rfl hs]
    refine congrArg Host.Outcome.next ?_
    show s.replied tag .management 0x31 (s.dev.readStatus part) = _
    unfold Device.readStatus
    exact replied_ite Iff.rfl (fun _ => rfl) fun _ => replied_ite Iff.rfl (fun _ => rfl) fun _ =>
      replied_ite Iff.rfl (fun _ => rfl) fun _ => rfl
  case opt =>
    intro n o
    cases o <;> rfl
  case line =>
    intro r
    simp only [LineRecord.data, LineRecord.configData, LineRecord.dynamicData, LineRecord.assigned, byte1,
      List.append_assoc, List.cons_append, List.nil_append]
  case trigger =>
    intro en now
    simp only [TriggerEntry.data, byte1, List.append_assoc, List.cons_append, List.nil_append]
    cases en.target <;> rfl
  case scan =>
    intro u setting
    have hsetting : ScanConfig.data = setting := rfl
    have hpoll : PollEntry.data = _ := funext PollEntry.data_eq
    rw [ScanUnit.data, hsetting, hpoll]
    simp only [Sweep.data, byte1, List.append_assoc, List.cons_append, List.nil_append] <;> cases u.sweep <;> rfl
  case status =>
    intro d
    simp only [Device.statusData, LinkSettings.data, byte1, allInputs, List.append_assoc, List.cons_append,
      List.nil_append]
  case station =>
    intro d st
    simp only [Device.stationData, StationRecord.driveFault, byte1, List.append_assoc, List.cons_append,
      List.nil_append, Bool.decide_or]

end Sys2Proof.Machine

/-! ### Management of triggers, scan, link and station settings (O29, O30, O31, O32, O33) -/

namespace Sys2Proof.Machine

/-! #### LOAD TRIGGER (R84), TRIGGER ACK (R99) and FIRE TRIGGER (R90) -/

/-- No condition reads the entries or ALM. -/
theorem conditionOf_setEntry (d : Device) (e : EntryId) (x en : TriggerEntry) :
    (d.setEntry e x).reformAlm.conditionOf en = d.conditionOf en := by
  unfold Device.conditionOf
  cases en.source <;> rfl

/-- R89 for an entry just written as IDLE. -/
theorem testLevel_of_idle (d : Device) (e : EntryId) (en : TriggerEntry) (h : en.status = .idle) :
    (d.setEntry e en).reformAlm.testLevel e =
      if en.enabled = true ∧ en.mode = .level ∧ d.conditionOf en = true then (d.setEntry e en).reformAlm.fire e
      else (d.setEntry e en).reformAlm := by
  have hentry : (d.setEntry e en).reformAlm.trig.entries[e] = en := put_get_self _ _ _
  unfold Device.testLevel
  dsimp only
  rw [hentry, conditionOf_setEntry, h]
  refine if_congr ?_ rfl rfl
  simp only [Bool.and_eq_true, decide_eq_true_eq, decide_true, and_true, and_assoc]

/-- R84, checks 2 to 4 in one equation. -/
theorem entryOf_eq {source param enabled mode polarity action targetMode : Byte} {target : Word16}
    {src : TriggerSource} {en : Bool} {m : TriggerMode} {p : Polarity} {a : TriggerAction} {t : TriggerTarget}
    (hs : sourceOfCode source param = some src) (hen : yesOfCode enabled = some en) (hm : modeOfCode mode = some m)
    (hp : polarityOfCode polarity = some p) (ha : actionOfCode action = some a)
    (ht : targetOfCode targetMode target = some t) :
    entryOf source param enabled mode polarity action targetMode target =
      if t = .sourceLine ∧ ∀ i : LineId, src ≠ .lineCritical i then none
      else some { source := src, enabled := en, mode := m, polarity := p, action := a, target := t } := by
  simp only [entryOf, hs, hen, hm, hp, ha, ht]
  refine if_congr (and_congr_right fun _ => ?_) rfl rfl
  cases src <;> simp

/-- Settles O29: where a field has no meaning both sides refuse; then the two checks in their order. -/
theorem loadTriggerChecksAndEffect : Obligations.LoadTriggerChecksAndEffect := by
  unfold Obligations.LoadTriggerChecksAndEffect
  intro tag entry source param enabled mode polarity action targetMode target s₀ hs s
  rw [exec_replied (tag := tag) (r := .loadTrigger entry source param enabled mode polarity action targetMode target)
    rfl rfl hs]
  refine congrArg Host.Outcome.next ?_
  show s.replied tag .management 0x10
    (s.dev.loadTrigger entry source param enabled mode polarity action targetMode target) = _
  unfold Device.loadTrigger
  cases idBelow 12 entry with
  | none => rfl
  | some e =>
    cases hsrc : sourceOfCode source param with
    | none => simp only [entryOf, hsrc]; rfl
    | some src =>
      cases hen : yesOfCode enabled with
      | none => simp only [entryOf, hsrc, hen]; rfl
      | some en =>
        cases hm : modeOfCode mode with
        | none => simp only [entryOf, hsrc, hen, hm]; rfl
        | some m =>
          cases hp : polarityOfCode polarity with
          | none => simp only [entryOf, hsrc, hen, hm, hp]; rfl
          | some pol =>
            cases ha : actionOfCode action with
            | none => simp only [entryOf, hsrc, hen, hm, hp, ha]; rfl
            | some act =>
              cases ht : targetOfCode targetMode target with
              | none => simp only [entryOf, hsrc, hen, hm, hp, ha, ht]; rfl
              | some tgt =>
                rw [entryOf_eq hsrc hen hm hp ha ht]
                dsimp only
                by_cases hline : tgt = .sourceLine ∧ ∀ i : LineId, src ≠ .lineCritical i
                · rw [if_pos hline, if_pos hline]
                  rfl
                · rw [if_neg hline, if_neg hline]
                  refine replied_ite Iff.rfl (fun _ => rfl) fun _ => ?_
                  rw [testLevel_of_idle _ _ _ rfl, replied_accept]
                  rfl

/-- Settles O30. -/
theorem triggerAckAndFireTrigger : Obligations.TriggerAckAndFireTrigger := by
  unfold Obligations.TriggerAckAndFireTrigger
  refine ⟨?ack, ?fire⟩
  case ack =>
    intro tag entry s₀ hs s
    rw [exec_replied (tag := tag) (r := .triggerAck entry) rfl rfl hs]
    refine congrArg Host.Outcome.next ?_
    show s.replied tag .management 0x12 (s.dev.triggerAck entry) = _
    unfold Device.triggerAck
    cases idBelow 12 entry with
    | none => rfl
    | some e =>
      dsimp only
      rw [ite_not]
      refine replied_ite Iff.rfl (fun _ => ?_) fun _ => rfl
      rw [testLevel_of_idle _ _ _ rfl, replied_accept]
      rfl
  case fire =>
    intro tag entry s₀ hs s
    rw [exec_replied (tag := tag) (r := .fireTrigger entry) rfl rfl hs]
    refine congrArg Host.Outcome.next ?_
    show s.replied tag .management 0x13 (s.dev.fireTrigger entry) = _
    unfold Device.fireTrigger
    cases idBelow 12 entry with
    | none => rfl
    | some e =>
      dsimp only
      refine replied_ite Iff.rfl (fun _ => rfl) fun _ => replied_ite ?_ (fun _ => rfl) fun _ => by rw [replied_accept]
      rw [Bool.not_eq_true]

/-! #### SET SCAN (R123) and SET LINK (R167) -/

/-- Settles O31. -/
theorem setScanChecksAndEffect : Obligations.SetScanChecksAndEffect := by
  unfold Obligations.SetScanChecksAndEffect
  intro tag mode target scanSet prioritySet interval s₀ hs s
  rw [exec_replied (tag := tag) (r := .setScan mode target scanSet prioritySet interval) rfl rfl hs]
  refine congrArg Host.Outcome.next ?_
  show s.replied tag .management 0x18 (s.dev.setScan mode target scanSet prioritySet interval) = _
  unfold Device.setScan
  cases scanModeOfCode mode with
  | none => rfl
  | some m =>
    cases id16 target with
    | none => rfl
    | some t =>
      dsimp only
      rw [clamp_of_one (by decide)]
      exact replied_ite Iff.rfl (fun _ => rfl) fun _ => replied_applied (changedValue_iff _ _) rfl rfl

/-- Settles O32. -/
theorem setLinkAppliesWhole : Obligations.SetLinkAppliesWhole := by
  unfold Obligations.SetLinkAppliesWhole
  intro tag si di ho wi re pg s₀ hs s
  rw [exec_replied (tag := tag) (r := .setLink si di ho wi re pg) rfl rfl hs]
  refine congrArg Host.Outcome.next ?_
  show s.replied tag .management 0x30 (s.dev.setLink si di ho wi re pg) = _
  unfold Device.setLink linkOf
  simp only [clamp_of_zero, clamp_of_one (show 1 ≤ 60 by decide), clamp_of_one (show 1 ≤ 15 by decide),
    clamp_of_one (show 1 ≤ 8 by decide)]
  rw [← ite_not]
  refine replied_applied ?changed rfl rfl
  case changed =>
    simp only [List.any_cons, List.any_nil, Bool.or_false, Bool.or_eq_true, changedValue_iff, not_and_or, ne_eq]

/-! #### STATION CONFIG (R136) and ACK STATION CHANGES (R137) -/

/-- Settles O33. -/
theorem stationSettings : Obligations.StationSettings := by
  unfold Obligations.StationSettings
  refine ⟨?config, ?ack⟩
  case config =>
    intro tag station mask limit s₀ hs s
    rw [exec_replied (tag := tag) (r := .stationConfig station mask limit) rfl rfl hs]
    refine congrArg Host.Outcome.next ?_
    show s.replied tag .management 0x20 (s.dev.stationConfig station mask limit) = _
    unfold Device.stationConfig
    cases id16 station with
    | none => rfl
    | some st =>
      cases maskOfCode mask with
      | none => rfl
      | some m =>
        dsimp only
        rw [clamp_of_one (by decide)]
        exact replied_applied (changedValue_iff _ _) rfl rfl
  case ack =>
    intro tag station flags s₀ hs s
    rw [exec_replied (tag := tag) (r := .ackStationChanges station flags) rfl rfl hs]
    refine congrArg Host.Outcome.next ?_
    show s.replied tag .management 0x27 (s.dev.ackStationChanges station flags) = _
    unfold Device.ackStationChanges
    cases id16 station with
    | none => rfl
    | some st => rfl

end Sys2Proof.Machine

/-! ### Stations' operations and soft reset (O35, O36, O37, O38) -/

namespace Sys2Proof.Machine

/-! #### Change flags and ENABLE STATION (R137, R141) -/

theorem ChangeFlags.union_without (a b : ChangeFlags) : (a.union b).without a = b.without a := by
  have hbit (x y : Bool) : ((x || y) && !x) = (y && !x) := by cases x <;> simp
  simp only [ChangeFlags.union, ChangeFlags.without, hbit]

/-- R137: the flags are set, and one event tells of those newly set. -/
theorem raiseChange_eq (d : Device) (st : StationId) (f : ChangeFlags) :
    d.raiseChange st f =
      (d.setStation st { d.stations[st] with flags := d.stations[st].flags.union f }).queueEvents
        (stationChanges st d.stations[st].flags { d.stations[st] with flags := d.stations[st].flags.union f }) := by
  have hset : (d.setStation st { d.stations[st] with flags := d.stations[st].flags.union f }).stations[st] =
      { d.stations[st] with flags := d.stations[st].flags.union f } := put_get_self _ _ _
  unfold Device.raiseChange stationChanges
  dsimp only
  rw [updStation_eq, hset, ChangeFlags.union_without]
  split <;> rfl

/-- Settles O35. -/
theorem enableStationChecksAndEffect : Obligations.EnableStationChecksAndEffect := by
  unfold Obligations.EnableStationChecksAndEffect
  refine ⟨raiseChange_eq, ?command⟩
  case command =>
    intro tag station s₀ hs s
    rw [exec_replied (tag := tag) (r := .enableStation station) rfl rfl hs]
    refine congrArg Host.Outcome.next ?_
    show s.replied tag .management 0x23 (s.dev.enableStation station) = _
    unfold Device.enableStation
    cases id16 station with
    | none => rfl
    | some st =>
      refine replied_ite Iff.rfl (fun _ => rfl) fun _ => ?_
      dsimp only
      rw [updStation_eq, replied_accept]

/-! #### PARK, UNPARK and STATION RESET (R146, R148) -/

theorem StationRecord.inService_eq_false_iff (r : StationRecord) :
    r.inService = false ↔ ¬(r.presence = .present ∧ r.enabled = true ∧ r.power = .on) := by
  rw [← Bool.not_eq_true, StationRecord.inService]
  simp only [Bool.and_eq_true, decide_eq_true_eq, and_assoc]

theorem LineRecord.onStation_iff (r : LineRecord) (st : StationId) :
    r.onStation st = true ↔ ∃ b : Binding, r.binding = some b ∧ b.station = st := by
  unfold LineRecord.onStation
  cases r.binding <;> simp

theorem stationOperation_isSome_iff (d : Device) (st : StationId) : (d.stationOperation st).isSome = true ↔
    ∃ x ∈ d.bus.stationSource, x.station = st ∧ ∃ op : StationOp, x.frame = .op op := by
  unfold Device.stationOperation
  rw [List.findSome?_isSome_iff]
  refine exists_congr fun x => and_congr_right fun _ => ?_
  cases x.frame <;> simp

theorem Slot.live_iff (x : Slot) : x.live = true ↔ x.state = .queued ∨ x.state = .issued ∨ x.state = .awaiting := by
  unfold Slot.live
  cases x.state <;> decide

theorem slotOnStation_iff (d : Device) (st : StationId) (x : Slot) : d.slotOnStation st x = true ↔
    ∃ c : SlotCommand, x.command = some c ∧ d.lines[c.line].onStation st = true := by
  unfold Device.slotOnStation
  cases x.command <;> simp

theorem stationHasSlot_iff (d : Device) (st : StationId) : d.stationHasSlot st = true ↔
    ∃ (k : SlotId) (c : SlotCommand), d.bridge.slots[k].command = some c ∧ d.lines[c.line].onStation st = true ∧
      (d.bridge.slots[k].state = .queued ∨ d.bridge.slots[k].state = .issued ∨
        d.bridge.slots[k].state = .awaiting) := by
  unfold Device.stationHasSlot
  rw [List.any_eq_true]
  refine exists_congr fun k => ?_
  rw [Bool.and_eq_true, Slot.live_iff, slotOnStation_iff, and_comm (a := k ∈ allSlots), and_iff_left (mem_allSlots k),
    and_comm, ← exists_and_right]
  simp only [and_assoc]

theorem LineState.moving_iff (x : LineState) :
    x.moving = true ↔ x = .runningOut ∨ x = .locking ∨ x = .releasing ∨ x = .rewinding := by
  cases x <;> decide

theorem mem_linesOf {d : Device} {st : StationId} {i : LineId} : i ∈ d.linesOf st ↔ d.lines[i].onStation st = true := by
  unfold Device.linesOf
  rw [List.mem_filter, and_iff_right (mem_all16 i)]

theorem parkBlocked_iff (d : Device) (st : StationId) : d.parkBlocked st = true ↔
    (∃ p ∈ d.bridge.posted, p.station = st) ∨ d.stationHasSlot st = true ∨
      (∃ y ∈ d.tend, d.lines[y.line].onStation st = true) ∨
      ∃ i : LineId, d.lines[i].onStation st = true ∧ (d.lines[i].state = .runningOut ∨ d.lines[i].state = .locking ∨
        d.lines[i].state = .releasing ∨ d.lines[i].state = .rewinding) := by
  simp only [Device.parkBlocked, PostedEntry.isFor, Bool.or_eq_true, List.any_eq_true, decide_eq_true_eq, mem_linesOf,
    LineState.moving_iff, or_assoc]

/-- The request of PARK or UNPARK. -/
def parkRequest (park : Bool) (station : Byte) : Request := if park then .park station else .unpark station

theorem parkOperation_eq (d : Device) (station : Byte) (park : Bool) : d.parkOperation station park =
    match id16 station with
    | none => refuse d .badArgument
    | some st => d.checked [(d.stations[st].inService, .stationUnavailable),
        ((d.stationOperation st).isNone && !d.stations[st].resetting, .stationBusy),
        (!(park && d.parkBlocked st), .stationBusy)]
      (if d.stations[st].parked = park then accept d
        else accept (d.placeStation st (.op (if park then .park else .unpark)))) := by
  unfold Device.parkOperation
  cases id16 station <;> rfl

theorem stationReset_eq (d : Device) (station : Byte) : d.stationReset station =
    match id16 station with
    | none => refuse d .badArgument
    | some st => d.checked [(d.stations[st].enabled && decide (d.stations[st].power = .on), .stationUnavailable),
        ((d.stationOperation st).isNone && !d.stations[st].resetting && !d.stationHasSlot st, .stationBusy)]
      (accept ((d.updStation st fun r => { r with resetting := true }).placeStation st (.op .reset))) := by
  unfold Device.stationReset
  cases id16 station <;> rfl

theorem isNone_and_not_eq_false_iff {α : Type} (o : Option α) (b : Bool) :
    (o.isNone && !b) = false ↔ o.isSome = true ∨ b = true := by
  cases o <;> cases b <;> simp

/-- Settles O36. -/
theorem stationOperationsChecksAndEffect : Obligations.StationOperationsChecksAndEffect := by
  unfold Obligations.StationOperationsChecksAndEffect
  refine ⟨?park, ?reset, LineRecord.onStation_iff, stationOperation_isSome_iff, fun d st => ⟨stationHasSlot_iff d st, ?_⟩⟩
  case park =>
    intro park tag station s₀ hs s
    have hperform : s.dev.perform tag (parkRequest park station) = s.dev.parkOperation station park := by
      cases park <;> rfl
    have hkind : (parkRequest park station).kind = .management := by cases park <;> rfl
    rw [exec_replied (tag := tag) (r := parkRequest park station) (code := if park then 0x24 else 0x25)
      (by cases park <;> rfl) (by cases park <;> rfl) hs]
    refine congrArg Host.Outcome.next ?_
    show s.replied tag _ _ (s.dev.perform tag (parkRequest park station)) = _
    rw [hkind, hperform, parkOperation_eq]
    cases id16 station with
    | none => rfl
    | some st =>
      refine replied_checked_cons (StationRecord.inService_eq_false_iff _) fun _ =>
        replied_checked_cons (isNone_and_not_eq_false_iff _ _) fun _ => replied_checked_cons ?_ fun _ => ?_
      · rw [Bool.not_eq_false', Bool.and_eq_true]
      · rw [checked_nil]
        exact replied_ite Iff.rfl (fun _ => rfl) fun _ => rfl
  case reset =>
    intro tag station s₀ hs s
    rw [exec_replied (tag := tag) (r := .stationReset station) rfl rfl hs]
    refine congrArg Host.Outcome.next ?_
    show s.replied tag .management 0x26 (s.dev.stationReset station) = _
    rw [stationReset_eq]
    cases id16 station with
    | none => rfl
    | some st =>
      refine replied_checked_cons ?_ fun _ => replied_checked_cons ?_ fun _ => rfl
      · rw [← Bool.not_eq_true, Bool.and_eq_true, decide_eq_true_eq]
      · rw [Bool.and_eq_false_iff, isNone_and_not_eq_false_iff, Bool.not_eq_false', or_assoc]
  · rw [parkBlocked_iff, stationHasSlot_iff]

/-! #### The moment of a soft reset (R175) -/

theorem resetEffect_of_not_sending {d : Device}
    (h : d.quay.resetAwaiting = false ∨ d.quay.replies ≠ [] ∨ d.quay.transmitter = none) : d.resetEffect = d := by
  refine if_neg ?_
  obtain h | h | h := h
  · simp [QuayPort.sendsResetReply, h]
  · simp [QuayPort.sendsResetReply, h]
  · simp [QuayPort.sendsResetReply, h]

theorem resetEffect_of_resetReply {d : Device} {r : Reply} (h : d.quay.transmitter = some (.reply r))
    (hreplies : d.quay.replies = []) (hreset : d.quay.resetAwaiting = true) : d.resetEffect = d.softReset := by
  refine if_pos ?_
  simp [QuayPort.sendsResetReply, h, hreplies, hreset]

/-- Settles O37. -/
theorem softResetAwaitsItsReply : Obligations.SoftResetAwaitsItsReply := by
  unfold Obligations.SoftResetAwaitsItsReply
  have hexec (s : State) : exec .resetTakesEffect s = .next { s with dev := s.dev.resetEffect.settle } := rfl
  refine ⟨fun tag s₀ hs => exec_replied (tag := tag) (r := .softReset) rfl rfl hs, fun r s hreset hreplies h => ?_,
    fun s h => ?_⟩
  · rw [hexec, resetEffect_of_resetReply h hreplies hreset]
    rfl
  · rw [hexec, resetEffect_of_not_sending h]
    rfl

/-! #### What every block's soft reset leaves -/

/-- Writing places of a table by their number writes each place of the list. -/
theorem foldl_put_at {α : Type} {n : Nat} (g : Fin n → α) (l : List (Fin n)) (v : Vector α n) (i : Fin n) :
    (l.foldl (fun v j => put v j (g j)) v)[i] = if i ∈ l then g i else v[i] := by
  induction l generalizing v with
  | nil => rfl
  | cons j l ih =>
    rw [List.foldl_cons, ih, put_get]
    by_cases hl : i ∈ l
    · rw [if_pos hl, if_pos (List.mem_cons_of_mem j hl)]
    · simp only [hl, if_false, List.mem_cons, or_false]
      split
      · rename_i hij
        rw [hij]
      · rfl

theorem setProbes_eq (f : StationId → Timer) (l : List StationId) (d : Device) :
    l.foldl (fun d st => d.setProbe st (f st)) d =
      { d with scan := { d.scan with probe := l.foldl (fun v st => put v st (f st)) d.scan.probe } } := by
  induction l generalizing d with
  | nil => rfl
  | cons st l ih => exact ih _

/-- R134: the probe timers, written from the station records. -/
theorem resetProbes_eq (d : Device) : d.resetProbes =
    { d with scan := { d.scan with
      probe := all16.foldl (fun v st => put v st (if d.stations[st].probeDue then some 1000 else none))
        d.scan.probe } } := by
  have hstations (l : List StationId) (e : Device) (h : e.stations = d.stations) :
      l.foldl (fun e st => e.setProbe st (if e.stations[st].probeDue then some 1000 else none)) e =
        l.foldl (fun e st => e.setProbe st (if d.stations[st].probeDue then some 1000 else none)) e := by
    induction l generalizing e with
    | nil => rfl
    | cons st l ih =>
      rw [List.foldl_cons, List.foldl_cons, h]
      exact ih _ h
  exact (hstations all16 d rfl).trans (setProbes_eq _ all16 d)

theorem conditionOf_of_entries (d : Device) (v : Vector TriggerEntry 12) (en : TriggerEntry) :
    ({ d with trig := { d.trig with entries := v } } : Device).conditionOf en = d.conditionOf en := by
  unfold Device.conditionOf
  cases en.source <;> rfl

/-- R102: the edge references, written from the conditions as they stand. -/
theorem resetEdges_eq (d : Device) : d.resetEdges = { d with trig := { d.trig with
    entries := allEntries.foldl (fun v e => put v e { v[e] with edgeRef := d.conditionOf v[e] }) d.trig.entries } } := by
  have hfold (l : List EntryId) (v : Vector TriggerEntry 12) :
      l.foldl (fun d e => d.setEntry e { d.trig.entries[e] with edgeRef := d.conditionOf d.trig.entries[e] })
          ({ d with trig := { d.trig with entries := v } } : Device) =
        { d with trig := { d.trig with
          entries := l.foldl (fun v e => put v e { v[e] with edgeRef := d.conditionOf v[e] }) v } } := by
    induction l generalizing v with
    | nil => rfl
    | cons e l ih =>
      rw [List.foldl_cons, List.foldl_cons, conditionOf_of_entries]
      exact ih _
  exact hfold allEntries d.trig.entries

theorem allEntries_nodup : allEntries.Nodup := by decide

theorem mem_allInputs (n : InputId) : n ∈ allInputs := by
  revert n
  decide

theorem TriggerUnit.softReset_entries (u : TriggerUnit) (e : EntryId) :
    u.softReset.entries[e] = { u.entries[e] with status := .idle } :=
  (foldl_put_get (fun x : TriggerEntry => { x with status := .idle }) allEntries allEntries_nodup u.entries e).trans
    (if_pos (mem_allEntries e))

theorem TriggerUnit.softReset_inputs (u : TriggerUnit) (n : InputId) : u.softReset.inputs[n] = u.inputs[n].restart :=
  (foldl_put_get TriggerInput.restart allInputs (by decide) u.inputs n).trans (if_pos (mem_allInputs n))

theorem LineRecord.softReset_of_assigned {r : LineRecord} (h : r.binding ≠ none) : r.softReset =
    { r with state := .fault, cause := some .resync, resync := true, owner := .quay, tension := 0, filtered := 0,
             seeded := false, band := .working, candidate := none, persistCount := 0, criticalRun := 0, sensor := .ok,
             pollCount := 0, triggerInFlight := none, lengthLimit := false, telemetryCount := 0 } :=
  if_pos (Option.isSome_iff_ne_none.mpr h)

theorem LineRecord.softReset_of_unassigned {r : LineRecord} (h : r.binding = none) :
    r.softReset = { r with pollCount := 0 } :=
  if_neg (by rw [(LineRecord.assigned_eq_false_iff r).mpr h]; exact Bool.false_ne_true)

/-- The part after every block's soft reset: the records and lists reset, the probe timers set, the edges taken. -/
theorem softResetBlocks_records (d : Device) : d.softResetBlocks =
    { d.resetRecords with
      scan := d.resetRecords.resetProbes.scan
      trig := { d.resetRecords.trig with entries := d.softResetBlocks.trig.entries } } := by
  rw [softResetBlocks_eq, resetEdges_eq, resetProbes_eq]

theorem softResetBlocks_entries (d : Device) (e : EntryId) : d.softResetBlocks.trig.entries[e] =
    { d.trig.entries[e] with status := .idle, edgeRef := d.softResetBlocks.conditionOf d.trig.entries[e] } := by
  have hcond (en : TriggerEntry) : d.softResetBlocks.conditionOf en = d.resetRecords.resetProbes.conditionOf en := by
    rw [softResetBlocks_eq, resetEdges_eq, conditionOf_of_entries]
  have hentries : d.resetRecords.resetProbes.trig.entries[e] = { d.trig.entries[e] with status := .idle } := by
    rw [resetProbes_eq]
    exact TriggerUnit.softReset_entries d.trig e
  rw [hcond, softResetBlocks_eq, resetEdges_eq]
  refine (foldl_put_get (fun x : TriggerEntry => { x with edgeRef := d.resetRecords.resetProbes.conditionOf x })
    allEntries allEntries_nodup d.resetRecords.resetProbes.trig.entries e).trans ?_
  rw [if_pos (mem_allEntries e), hentries]
  rfl

theorem softResetBlocks_probe (d : Device) (st : StationId) : d.softResetBlocks.scan.probe[st] =
    if d.stations[st].probeDue = true then some 1000 else none := by
  have hdue : d.resetRecords.stations[st].probeDue = d.stations[st].probeDue := by
    show (mapAll d.stations StationRecord.softReset)[st].probeDue = _
    rw [mapAll_get]
    rfl
  rw [softResetBlocks_records, resetProbes_eq]
  refine (foldl_put_at (fun st => if d.resetRecords.stations[st].probeDue then some 1000 else none) all16 _ st).trans ?_
  rw [if_pos (mem_all16 st), hdue]

/-- Settles O38. -/
theorem softResetOfEveryBlock : Obligations.SoftResetOfEveryBlock := by
  unfold Obligations.SoftResetOfEveryBlock
  intro d t
  have ht : t = { d.resetRecords with
      scan := d.resetRecords.resetProbes.scan
      trig := { d.resetRecords.trig with entries := d.softResetBlocks.trig.entries } } := softResetBlocks_records d
  have hscan : t.scan = { d.scan.softReset with probe := t.scan.probe } := by
    rw [ht, resetProbes_eq]
    rfl
  have hlines (i : LineId) : t.lines[i] = d.lines[i].softReset := by
    rw [ht]
    exact mapAll_get _ _ i
  refine ⟨rfl, fun i h => (hlines i).trans (LineRecord.softReset_of_assigned h),
    fun i h => (hlines i).trans (LineRecord.softReset_of_unassigned h), by rw [ht]; rfl, by rw [ht]; rfl, by rw [ht]; rfl,
    fun k => ?slots, by rw [ht]; rfl, by rw [ht]; rfl, by rw [ht]; rfl, fun i => ?releaseTimers, fun n => ?inputs,
    softResetBlocks_entries d, by rw [hscan]; rfl, by rw [hscan]; rfl, by rw [hscan]; rfl, by rw [hscan]; rfl,
    by rw [hscan]; rfl, by rw [hscan]; rfl, fun i => ?followUp, by rw [hscan]; rfl, softResetBlocks_probe d,
    by rw [ht]; rfl, fun st => ?stations, fun st => ?hold, by rw [ht]; rfl⟩
  case slots =>
    rw [ht]
    exact replicate_get _ k
  case releaseTimers =>
    rw [ht]
    exact replicate_get _ i
  case inputs =>
    rw [ht]
    exact TriggerUnit.softReset_inputs d.trig n
  case followUp =>
    rw [hscan]
    exact replicate_get _ i
  case stations =>
    rw [ht]
    exact mapAll_get _ _ st
  case hold =>
    rw [ht]
    exact replicate_get _ st

end Sys2Proof.Machine

/-! ### A sending (O39)

What a sending leaves is first written out field by field, by the owner of the frame (`send_eq`); the statements about a
sending and about one that is given back are read from there. -/

namespace Sys2Proof.Machine

/-! #### The fields after a sending, by its owner (R55, R63, R71, R94, R96, R111, R129, R130) -/

theorem updPosted_eq (d : Device) (f : PostedEntry → PostedEntry) :
    d.updPosted f = { d with bridge := { d.bridge with posted := d.bridge.posted.modifyHead f } } := by
  unfold Device.updPosted
  split
  next h => rw [h, List.modifyHead_nil, ← h]
  next p ps h => rw [h, List.modifyHead_cons]

theorem updStationHead_eq (d : Device) (f : StationItem → StationItem) :
    d.updStationHead f = { d with bus := { d.bus with stationSource := d.bus.stationSource.modifyHead f } } := by
  unfold Device.updStationHead
  split
  next h => rw [h, List.modifyHead_nil, ← h]
  next x xs h => rw [h, List.modifyHead_cons]

/-- A line with a trigger action in flight has its follow-up timer run (R133). -/
theorem syncFollowUp_of_inFlight {d : Device} {i : LineId} (h : d.lines[i].triggerInFlight.isSome = true) :
    d.syncFollowUp i = { d with scan := { d.scan with
      followUp := put d.scan.followUp i (if d.scan.followUp[i].isSome then d.scan.followUp[i] else some 100) } } := by
  have hdue : d.followUpDue i = true := by rw [Device.followUpDue, h, Bool.true_or]
  unfold Device.syncFollowUp
  rw [hdue]
  rfl

/-- The line records after a sending. -/
def Device.linesSent (d : Device) (o : Offer) : Vector LineRecord 16 :=
  match o.owner with
  | .trigger e i =>
    if o.verb = .release then put d.lines i { d.lines[i] with triggerInFlight := some (e, d.actionFor o) } else d.lines
  | .pollLine i _ _ => put d.lines i { d.lines[i] with pollCount := (d.lines[i].pollCount + 1) % 8 }
  | _ => d.lines

/-- The tend request list after a sending. -/
def Device.tendSent (d : Device) (o : Offer) : List TendEntry :=
  match o.owner with
  | .tend i => d.tend.map fun y => if y.line = i then { y with sent := true, attempts := y.attempts + 1 } else y
  | _ => d.tend

/-- The Command Bridge after a sending. -/
def Device.bridgeSent (d : Device) (o : Offer) : Bridge :=
  match o.owner with
  | .posted => { d.bridge with
      posted := d.bridge.posted.modifyHead fun p => { p with sent := true, attempts := p.attempts + 1 } }
  | .confirmed k => { d.bridge with
      slots := put d.bridge.slots k { d.bridge.slots[k] with
        state := .issued, action := some (d.actionFor o), attempts := d.bridge.slots[k].attempts + 1 }
      retries := d.bridge.retries.erase k }
  | _ => d.bridge

/-- The Release Trigger Unit after a sending. -/
def Device.trigSent (d : Device) (o : Offer) : TriggerUnit :=
  match o.owner with
  | .trigger e i => { d.trig with
      actions := d.trig.actions.map fun r =>
        if r.entry = e then r.updTarget i fun t => { t with state := .sent, attempts := t.attempts + 1 } else r
      releaseTimers := if o.verb = .release then put d.trig.releaseTimers i none else d.trig.releaseTimers }
  | _ => d.trig

/-- The Scan Unit after a sending. -/
def Device.scanSent (d : Device) (o : Offer) : ScanUnit :=
  match o.owner with
  | .trigger _ i =>
    if o.verb = .release then
      { d.scan with
        followUp := put d.scan.followUp i (if d.scan.followUp[i].isSome then d.scan.followUp[i] else some 100) }
    else d.scan
  | .pollLine i s _ => { d.scan with
      pollList := d.scan.pollList.tail
      sweep := if s then d.scan.sweep.map fun w => { w.setMember i .inFlight with sent := w.sent + 1 }
        else d.scan.sweep }
  | .probe _ => { d.scan with pollList := d.scan.pollList.tail }
  | _ => d.scan

/-- The STATION source after a sending. -/
def Device.sourceSent (d : Device) (o : Offer) : List StationItem :=
  match o.owner with
  | .station => d.bus.stationSource.modifyHead fun x => { x with attempts := x.attempts + 1 }
  | _ => d.bus.stationSource

theorem ownerSent_eq (d : Device) (o : Offer) : d.ownerSent o (d.actionFor o) =
    { d with lines := d.linesSent o, tend := d.tendSent o, bridge := d.bridgeSent o, trig := d.trigSent o,
             scan := d.scanSent o, bus := { d.bus with stationSource := d.sourceSent o } } := by
  unfold Device.ownerSent Device.linesSent Device.tendSent Device.bridgeSent Device.trigSent Device.scanSent
    Device.sourceSent
  cases o.owner with
  | trigger e i =>
    dsimp only
    split
    · rw [syncFollowUp_of_inFlight]
      · rfl
      · simp
    · rfl
  | stopAll e => rfl
  | pollLine i s f => cases s <;> rfl
  | probe st => rfl
  | posted => exact updPosted_eq d _
  | confirmed k => rfl
  | tend i => rfl
  | station => exact updStationHead_eq d _

/-- The exchange that a sending puts on the bus. -/
def Device.exchangeFor (d : Device) (o : Offer) : Exchange :=
  { owner := o.owner, frame := o.frame (d.actionFor o), station := o.station, undo := d.undoFor o }

/-- The stations' next action numbers after a sending (R110). -/
def Device.actionsAfter (d : Device) (o : Offer) : Vector ActionNo 16 :=
  match o.station with
  | some st => if o.verb = .poll then d.bus.nextAction else put d.bus.nextAction st (d.bus.nextAction[st] + 1)
  | none => d.bus.nextAction

theorem takeAction_eq (d : Device) (o : Offer) :
    d.takeAction o = { d with bus := { d.bus with nextAction := d.actionsAfter o } } := by
  unfold Device.takeAction Device.actionsAfter
  cases o.station with
  | none => rfl
  | some st =>
    dsimp only
    split <;> rfl

/-- A sending, field by field. -/
theorem send_eq (d : Device) (o : Offer) : d.send o =
    { d with lines := d.linesSent o, tend := d.tendSent o, bridge := d.bridgeSent o, trig := d.trigSent o,
             scan := d.scanSent o,
             bus := { d.bus with
               engine := .sending, exchange := some (d.exchangeFor o), stationSource := d.sourceSent o
               nextAction := d.actionsAfter o } } := by
  unfold Device.send
  dsimp only
  rw [takeAction_eq, ownerSent_eq]
  rfl

/-! #### The fields that an owner leaves alone -/

section Untouched
variable {d : Device} {o : Offer}

theorem linesSent_of_other (ht : ∀ (e : EntryId) (i : LineId), o.owner ≠ .trigger e i)
    (hp : ∀ (i : LineId) (s f : Bool), o.owner ≠ .pollLine i s f) : d.linesSent o = d.lines := by
  unfold Device.linesSent
  split
  next e i h => exact absurd h (ht e i)
  next i s f h => exact absurd h (hp i s f)
  next => rfl

theorem tendSent_of_other (h : ∀ i : LineId, o.owner ≠ .tend i) : d.tendSent o = d.tend := by
  unfold Device.tendSent
  split
  next i hi => exact absurd hi (h i)
  next => rfl

theorem bridgeSent_of_other (hp : o.owner ≠ .posted) (hc : ∀ k : SlotId, o.owner ≠ .confirmed k) :
    d.bridgeSent o = d.bridge := by
  unfold Device.bridgeSent
  split
  next h => exact absurd h hp
  next k h => exact absurd h (hc k)
  next => rfl

theorem trigSent_of_other (h : ∀ (e : EntryId) (i : LineId), o.owner ≠ .trigger e i) : d.trigSent o = d.trig := by
  unfold Device.trigSent
  split
  next e i ho => exact absurd ho (h e i)
  next => rfl

theorem scanSent_of_other (ht : ∀ (e : EntryId) (i : LineId), o.owner ≠ .trigger e i)
    (hp : ∀ (i : LineId) (s f : Bool), o.owner ≠ .pollLine i s f) (hprobe : ∀ st : StationId, o.owner ≠ .probe st) :
    d.scanSent o = d.scan := by
  unfold Device.scanSent
  split
  next e i h => exact absurd h (ht e i)
  next i s f h => exact absurd h (hp i s f)
  next st h => exact absurd h (hprobe st)
  next => rfl

theorem sourceSent_of_other (h : o.owner ≠ .station) : d.sourceSent o = d.bus.stationSource := by
  unfold Device.sourceSent
  split
  next ho => exact absurd ho h
  next => rfl

/-- R110: a command frame to one station takes its next action number. -/
theorem actionFor_of_command {st : StationId} (hst : o.station = some st) (hv : o.verb ≠ .poll) :
    d.actionFor o = d.bus.nextAction[st] := by
  simp only [Device.actionFor, hst, if_neg hv]

theorem actionFor_of_other (h : o.station = none ∨ o.verb = .poll) : d.actionFor o = 0 := by
  unfold Device.actionFor
  split
  next st hst => rw [if_pos (h.resolve_left fun hn => Option.some_ne_none st (hst.symm.trans hn))]
  next => rfl

theorem actionsAfter_of_command {st : StationId} (hst : o.station = some st) (hv : o.verb ≠ .poll) :
    d.actionsAfter o = put d.bus.nextAction st (d.bus.nextAction[st] + 1) := by
  simp only [Device.actionsAfter, hst, if_neg hv]

theorem actionsAfter_of_other (h : o.station = none ∨ o.verb = .poll) : d.actionsAfter o = d.bus.nextAction := by
  unfold Device.actionsAfter
  split
  next st hst => rw [if_pos (h.resolve_left fun hn => Option.some_ne_none st (hst.symm.trans hn))]
  next => rfl

end Untouched

/-- The characters of a frame, destination, drum and kind added up in the second (R161). -/
theorem BusFrame.body_eq (f : BusFrame) (h : f.dest < 32) : f.body =
    [arbitrationChar f.priority 30,
      BitVec.ofNat 8 (f.dest + (match f.drum with | .a => 0 | .b => 32) +
        (match f.kind with | .normal => 0 | .checkHigh => 64 | .checkLow => 128)),
      codeBusVerb f.verb, BitVec.ofNat 8 f.action.val] ++ byte2 f.arg := by
  rw [BusFrame.body, Nat.mod_eq_of_lt h]
  cases f.drum <;> cases f.kind <;> rfl

/-- Settles O39: each clause is a field of `send_eq`. -/
theorem actionNumbersOfSendings : Obligations.ActionNumbersOfSendings := by
  unfold Obligations.ActionNumbersOfSendings
  intro d o t
  have ht : t = { d with
      lines := d.linesSent o, tend := d.tendSent o, bridge := d.bridgeSent o, trig := d.trigSent o, scan := d.scanSent o,
      bus := { d.bus with
        engine := .sending, exchange := some (d.exchangeFor o), stationSource := d.sourceSent o
        nextAction := d.actionsAfter o } } := send_eq d o
  clear_value t
  subst ht
  refine ⟨rfl, fun st hst hv => ⟨⟨_, rfl, rfl, hst, ?frame⟩, ?action, fun st' hst' => ?others⟩,
    fun h => ⟨⟨_, rfl, rfl, actionFor_of_other h, rfl, rfl, rfl, rfl, rfl, rfl, ?dest⟩, actionsAfter_of_other h⟩,
    rfl, rfl, rfl, rfl, rfl, rfl, rfl, sourceSent_of_other, tendSent_of_other, bridgeSent_of_other,
    fun h => ⟨trigSent_of_other h, fun h' => ⟨linesSent_of_other h h', scanSent_of_other h h'⟩⟩,
    fun i h => ?tend, fun p ps h hp => ?posted, fun k st h hst hv => ?confirmed, fun x xs h hx => ?station,
    fun e i st h hst hv => ?trigger, fun i sweep followUp h => ?pollLine, fun st h => ?probe, fun f hf => ?chars, rfl⟩
  case frame =>
    simp only [Device.exchangeFor, Offer.frame, hst, actionFor_of_command hst hv]
  case action =>
    dsimp only
    rw [actionsAfter_of_command hst hv, put_get_self]
  case others =>
    dsimp only
    rw [actionsAfter_of_command hst hv, put_get_ne _ _ hst']
  case dest => cases hst : o.station <;> simp only [Device.exchangeFor, Offer.frame, hst]
  case tend => simp only [Device.tendSent, h]
  case posted => simp only [Device.bridgeSent, h, hp, List.modifyHead_cons]
  case confirmed => simp only [Device.bridgeSent, h, actionFor_of_command hst hv]
  case station => simp only [Device.sourceSent, h, hx, List.modifyHead_cons]
  case trigger =>
    simp only [Device.trigSent, Device.linesSent, Device.scanSent, h, actionFor_of_command hst hv, true_and]
    refine ⟨rfl, fun hrelease => ⟨if_neg hrelease, if_neg hrelease, if_neg hrelease⟩,
      fun hrelease => ⟨if_pos hrelease, if_pos hrelease, if_pos hrelease⟩⟩
  case pollLine =>
    simp only [Device.linesSent, Device.scanSent, h, true_and]
    rfl
  case probe => simp only [Device.scanSent, h]
  case chars =>
    exact congrArg (fun body => body ++ [crc8 body]) (BusFrame.body_eq f hf)

end Sys2Proof.Machine

/-! ### The check of the poll list's head, and the scheduler's choice (O40, O41)

The check of the head removes entries that are not due any more. `SweepWork` says what such a removal, and the sweep it may
finish, leaves: everything but the Quay Port and the Scan Unit, and no more stale entries than before. -/

namespace Sys2Proof.Machine

/-! #### Stale entries of the poll list (R129, R132) -/

/-- An entry that the check of the head removes. -/
def Device.stale (d : Device) : PollEntry → Bool
  | .line i _ _ => !d.eligible i
  | .probe st => !d.stations[st].probeDue

/-- What the Scan Unit's own operations keep. -/
structure SweepWork (d d' : Device) : Prop where
  parts : d' = { d with quay := d'.quay, scan := d'.scan }
  quay : QuayKept d.quay d'.quay
  stale : d'.scan.pollList.countP d.stale ≤ d.scan.pollList.countP d.stale

theorem SweepWork.stale_eq {d d' : Device} (h : SweepWork d d') : d'.stale = d.stale := by
  rw [h.parts]
  rfl

theorem SweepWork.refl (d : Device) : SweepWork d d := ⟨rfl, QuayKept.rfl' _, le_refl _⟩

theorem SweepWork.trans {a b c : Device} (h : SweepWork a b) (k : SweepWork b c) : SweepWork a c where
  parts := by rw [k.parts, h.parts]
  quay := h.quay.trans k.quay
  stale := by
    have hk := k.stale
    rw [h.stale_eq] at hk
    exact hk.trans h.stale

theorem SweepWork.ite {c : Prop} [Decidable c] {d a b : Device} (h : SweepWork d a) (k : SweepWork d b) :
    SweepWork d (if c then a else b) := by
  split <;> assumption

/-- The Scan Unit rewritten with the same poll list. -/
theorem scan_sweepWork (d : Device) (u : ScanUnit) (h : u.pollList = d.scan.pollList) :
    SweepWork d { d with scan := u } := ⟨rfl, QuayKept.rfl' _, (congrArg _ h).le⟩

theorem queueEvent_sweepWork (d : Device) (e : Event) : SweepWork d (d.queueEvent e) :=
  ⟨rfl, queueEvent_kept d e, le_refl _⟩

theorem stale_mark (d : Device) (i : LineId) (sweep followUp : Bool) (p : PollEntry) :
    d.stale (p.mark i sweep followUp) = d.stale p := by
  cases p with
  | line j s f =>
    show d.stale (if j = i then .line j (s || sweep) (f || followUp) else .line j s f) = _
    split <;> rfl
  | probe st => rfl

theorem makeLineDue_sweepWork {d : Device} (sweep followUp : Bool) {i : LineId} (h : d.eligible i = true) :
    SweepWork d (d.makeLineDue sweep followUp i) := by
  refine ⟨rfl, QuayKept.rfl' _, ?_⟩
  show (addLine d.scan.pollList i sweep followUp).countP d.stale ≤ _
  have hmark : d.stale ∘ PollEntry.mark i sweep followUp = d.stale := funext (stale_mark d i sweep followUp)
  unfold addLine
  split
  · rw [List.countP_map, hmark]
  · simp [List.countP_append, Device.stale, h]

theorem closeSweep_sweepWork (d : Device) : SweepWork d d.closeSweep := by
  have hclosed : SweepWork d { d with scan := { d.scan with sweep := none } } := scan_sweepWork d _ rfl
  unfold Device.closeSweep
  split
  · exact SweepWork.refl d
  · exact SweepWork.ite hclosed
      ((hclosed.trans (queueEvent_sweepWork _ _)).trans (scan_sweepWork _ _ rfl))

theorem sweepMembers_eligible {d : Device} {i : LineId} (h : i ∈ d.sweepMembers) : d.eligible i = true := by
  have houtside (h : d.outsideLine = some i) : d.eligible i = true := by
    have hfound := List.find?_some h
    simp only [Bool.and_eq_true] at hfound
    exact hfound.2
  unfold Device.sweepMembers at h
  dsimp only at h
  split at h
  · exact absurd h List.not_mem_nil
  · exact (List.mem_filter.mp h).2
  · exact (List.mem_filter.mp h).2
  · exact (Bool.and_eq_true_iff.mp (List.mem_filter.mp h).2).2
  · exact (Bool.and_eq_true_iff.mp (List.mem_filter.mp h).2).2
  · obtain hin | hout := Bool.or_eq_true_iff.mp (List.mem_filter.mp h).2
    · exact (Bool.and_eq_true_iff.mp hin).2
    · exact houtside (of_decide_eq_true hout)

theorem makeLinesDue_sweepWork (l : List LineId) (d : Device) (h : ∀ i ∈ l, d.eligible i = true) :
    SweepWork d (l.foldl (fun d i => d.makeLineDue true false i) d) := by
  induction l generalizing d with
  | nil => exact SweepWork.refl d
  | cons i l ih =>
    exact (makeLineDue_sweepWork true false (h i List.mem_cons_self)).trans
      (ih _ fun j hj => h j (List.mem_cons_of_mem i hj))

theorem startSweep_sweepWork (d : Device) : SweepWork d d.startSweep := by
  have hstart (p : LineId) (w : Sweep) : SweepWork d { d with scan := { d.scan with pointer := p, sweep := some w } } :=
    scan_sweepWork d _ rfl
  exact SweepWork.ite ((hstart _ _).trans (closeSweep_sweepWork _))
    ((hstart _ _).trans (makeLinesDue_sweepWork _ _ fun i hi => sweepMembers_eligible (d := d) hi))

theorem applyConfig_sweepWork (d : Device) (c : ScanConfig) : SweepWork d (d.applyConfig c) := by
  have hset : SweepWork d { d with scan := { d.scan with
      config := c, pending := none, intervalTimer := none, sweepDue := false } } := scan_sweepWork d _ rfl
  unfold Device.applyConfig
  dsimp only
  split
  · exact hset
  · exact hset.trans (startSweep_sweepWork _)
  · exact hset.trans (startSweep_sweepWork _)
  all_goals exact (hset.trans (startSweep_sweepWork _)).trans (scan_sweepWork _ _ rfl)

theorem finishSweep_sweepWork (d : Device) : SweepWork d d.finishSweep := by
  have hclose := closeSweep_sweepWork d
  have hdue : SweepWork d { d.closeSweep with scan := { d.closeSweep.scan with sweepDue := false } } :=
    hclose.trans (scan_sweepWork _ _ rfl)
  unfold Device.finishSweep
  dsimp only
  refine SweepWork.ite (SweepWork.ite ?_ hclose) ?_
  · split
    · exact hclose.trans (applyConfig_sweepWork _ _)
    · exact hdue.trans (startSweep_sweepWork _)
  · split
    · exact hclose.trans (applyConfig_sweepWork _ _)
    · exact hclose

theorem checkSweep_sweepWork (d : Device) : SweepWork d d.checkSweep := by
  unfold Device.checkSweep
  split
  · exact SweepWork.ite (finishSweep_sweepWork d) (SweepWork.refl d)
  · exact SweepWork.refl d

theorem updSweep_sweepWork (d : Device) (f : Sweep → Sweep) : SweepWork d (d.updSweep f) := scan_sweepWork d _ rfl

theorem memberDone_sweepWork (d : Device) (i : LineId) (b : Bool) : SweepWork d (d.memberDone i b) :=
  (updSweep_sweepWork d _).trans (checkSweep_sweepWork _)

/-! #### The check of the head -/

/-- The poll list without its head. -/
theorem popPoll_of_cons {d : Device} {p : PollEntry} {rest : List PollEntry} (h : d.scan.pollList = p :: rest) :
    d.popPoll = { d with scan := { d.scan with pollList := rest } } := by
  rw [Device.popPoll, h, List.tail_cons]

/-- The part with a stale head removed, and the member of a sweep marked (R126, R129). -/
def Device.dropHead (d : Device) (p : PollEntry) : Device :=
  match p with
  | .line i s _ => if s then d.popPoll.memberDone i false else d.popPoll
  | .probe _ => d.popPoll

section PruneHead
variable {d : Device} {p : PollEntry} {rest : List PollEntry}

theorem pruneHead_of_nil (n : Nat) (h : d.scan.pollList = []) : Device.pruneHead n d = d := by
  cases n with
  | zero => rfl
  | succ n => simp only [Device.pruneHead, h]

theorem pruneHead_of_due (n : Nat) (h : d.scan.pollList = p :: rest) (hdue : d.stale p = false) :
    Device.pruneHead n d = d := by
  cases n with
  | zero => rfl
  | succ n =>
    cases p with
    | line i s f =>
      have hdue' : d.eligible i = true := by simpa [Device.stale] using hdue
      simp only [Device.pruneHead, h, if_pos hdue']
    | probe st =>
      have hdue' : d.stations[st].probeDue = true := by simpa [Device.stale] using hdue
      simp only [Device.pruneHead, h]
      rw [if_pos hdue']

theorem pruneHead_of_stale (n : Nat) (h : d.scan.pollList = p :: rest) (hstale : d.stale p = true) :
    Device.pruneHead (n + 1) d = Device.pruneHead n (d.dropHead p) := by
  cases p with
  | line i s f =>
    have hnot : ¬d.eligible i = true := by simpa [Device.stale] using hstale
    simp only [Device.pruneHead, Device.dropHead, popPoll_of_cons h, h, if_neg hnot]
  | probe st =>
    have hnot : ¬d.stations[st].probeDue = true := by simpa [Device.stale] using hstale
    simp only [Device.pruneHead, Device.dropHead, popPoll_of_cons h, h]
    rw [if_neg hnot]

theorem popPoll_sweepWork (d : Device) : SweepWork d d.popPoll :=
  ⟨rfl, QuayKept.rfl' _, List.Sublist.countP_le (List.tail_sublist _)⟩

theorem dropHead_popped (d : Device) (p : PollEntry) : SweepWork d.popPoll (d.dropHead p) := by
  cases p with
  | line i s f => exact SweepWork.ite (memberDone_sweepWork _ i false) (SweepWork.refl _)
  | probe st => exact SweepWork.refl _

/-- A removal leaves fewer stale entries. -/
theorem dropHead_stale (h : d.scan.pollList = p :: rest) (hstale : d.stale p = true) :
    (d.dropHead p).scan.pollList.countP d.stale < d.scan.pollList.countP d.stale := by
  have hdrop : (d.dropHead p).scan.pollList.countP d.stale ≤ d.scan.pollList.tail.countP d.stale :=
    (dropHead_popped d p).stale
  rw [h, List.tail_cons] at hdrop
  rw [h, List.countP_cons_of_pos hstale]
  exact Nat.lt_succ_of_le hdrop

end PruneHead

theorem pruneHead_sweepWork (n : Nat) (d : Device) : SweepWork d (Device.pruneHead n d) := by
  induction n generalizing d with
  | zero => exact SweepWork.refl d
  | succ n ih =>
    rcases h : d.scan.pollList with _ | ⟨p, rest⟩
    · rw [pruneHead_of_nil _ h]
      exact SweepWork.refl d
    · cases hstale : d.stale p with
      | false =>
        rw [pruneHead_of_due _ h hstale]
        exact SweepWork.refl d
      | true =>
        rw [pruneHead_of_stale _ h hstale]
        exact ((popPoll_sweepWork d).trans (dropHead_popped d p)).trans (ih _)

/-- With as many removals as there are stale entries, the head that is left is due. -/
theorem pruneHead_head (n : Nat) (d : Device) (hn : d.scan.pollList.countP d.stale ≤ n) (p : PollEntry)
    (rest : List PollEntry) (hp : (Device.pruneHead n d).scan.pollList = p :: rest) : d.stale p = false := by
  induction n generalizing d with
  | zero =>
    have hnone := List.countP_eq_zero.mp (Nat.le_zero.mp hn) p (hp ▸ List.mem_cons_self)
    exact Bool.eq_false_of_not_eq_true hnone
  | succ n ih =>
    rcases h : d.scan.pollList with _ | ⟨q, rest'⟩
    · rw [pruneHead_of_nil _ h, h] at hp
      exact absurd hp (List.cons_ne_nil _ _).symm
    · cases hstale : d.stale q with
      | false =>
        rw [pruneHead_of_due _ h hstale, h] at hp
        obtain ⟨rfl, -⟩ := List.cons.inj hp
        exact hstale
      | true =>
        have hsame := ((popPoll_sweepWork d).trans (dropHead_popped d q)).stale_eq
        have hfewer := dropHead_stale h hstale
        rw [pruneHead_of_stale _ h hstale] at hp
        rw [← hsame] at hfewer ⊢
        rw [hsame] at hfewer
        refine ih _ ?_ hp
        rw [hsame]
        omega

end Sys2Proof.Machine

/-! ### The scheduler's order (O40) and what settling leaves alone (O41) -/

namespace Sys2Proof.Machine

/-! #### The steps of R107 -/

section Choice
variable {d : Device}

theorem choose_of_busy (h : d.bus.engine ≠ .idle ∨ d.bus.observer ≠ .quiet) : d.choose = d := by
  refine if_neg ?_
  rw [Bus.isFree, Bool.and_eq_true, decide_eq_true_eq, decide_eq_true_eq, not_and_or]
  exact h

theorem choose_of_free (he : d.bus.engine = .idle) (ho : d.bus.observer = .quiet) : d.choose = d.chooseFree :=
  if_pos (by rw [Bus.isFree, he, ho]; rfl)

theorem chooseFree_of_trigger {o : Offer} (h : d.offerTrigger = some o) : d.chooseFree = d.send o := by
  simp only [Device.chooseFree, h]

theorem chooseFree_of_run {p : ClassThree × Offer} (h : d.offerTrigger = none) (hrun : d.bus.pollRun = 4)
    (hp : d.chooseThree = some p) : d.chooseFree = d.sendThree p := by
  simp only [Device.chooseFree, h, if_pos hrun, hp]

theorem chooseFree_of_poll (h : d.offerTrigger = none) (hrun : d.bus.pollRun ≠ 4 ∨ d.chooseThree = none) :
    d.chooseFree = d.choosePollOrThree := by
  simp only [Device.chooseFree, h]
  obtain hrun | hthree := hrun
  · rw [if_neg hrun]
  · rw [hthree, ite_self]

theorem choosePollOrThree_of_poll {o : Offer} (h : (Device.pruneHead 64 d).offerPoll = some o) :
    d.choosePollOrThree = (Device.pruneHead 64 d).sendPoll o := by
  simp only [Device.choosePollOrThree, h]

theorem choosePollOrThree_of_three {p : ClassThree × Offer} (h : (Device.pruneHead 64 d).offerPoll = none)
    (hp : (Device.pruneHead 64 d).chooseThree = some p) :
    d.choosePollOrThree = (Device.pruneHead 64 d).sendThree p := by
  simp only [Device.choosePollOrThree, h, hp]

theorem choosePollOrThree_of_nothing (h : (Device.pruneHead 64 d).offerPoll = none)
    (hp : (Device.pruneHead 64 d).chooseThree = none) : d.choosePollOrThree = Device.pruneHead 64 d := by
  simp only [Device.choosePollOrThree, h, hp]

theorem offerPoll_of_nil (h : d.scan.pollList = []) : d.offerPoll = none := by
  simp only [Device.offerPoll, h]

theorem send_pollRun (d : Device) (o : Offer) : (d.send o).bus.pollRun = d.bus.pollRun := by rw [send_eq]

theorem send_rotation (d : Device) (o : Offer) : (d.send o).bus.rotation = d.bus.rotation := by rw [send_eq]

end Choice

/-! #### What the sources offer -/

/-- A search passes over a beginning that does not satisfy its test. -/
theorem find?_of_split {α : Type} {p : α → Bool} {l before after : List α} {y : α} (h : l = before ++ y :: after)
    (hbefore : ∀ x ∈ before, p x = false) (hy : p y = true) : l.find? p = some y :=
  List.find?_eq_some_iff_append.mpr ⟨hy, before, after, h, fun x hx => by rw [hbefore x hx]; rfl⟩

section Offers
variable {d : Device}

theorem offerTrigger_of_target {r : ActionRecord} {rs : List ActionRecord} {y : Target} {b : Binding}
    (h : d.trig.actions = r :: rs) (ha : r.action ≠ .stopAll)
    (hy : r.targets.find? (fun t => decide (t.state = .waiting)) = some y) (hb : d.lines[y.line].binding = some b) :
    d.offerTrigger = some
      { owner := .trigger r.entry y.line, station := some b.station, priority := r.action.bus.2, verb := r.action.bus.1,
        drum := b.drum, kind := .normal, arg := y.step } := by
  simp only [Device.offerTrigger, h, if_neg ha, hy, hb, Option.map_some]

theorem offerTrigger_of_no_target {r : ActionRecord} {rs : List ActionRecord} (h : d.trig.actions = r :: rs)
    (ha : r.action ≠ .stopAll) (hnone : ∀ y ∈ r.targets, y.state ≠ .waiting) : d.offerTrigger = none := by
  have hfind : r.targets.find? (fun t => decide (t.state = .waiting)) = none :=
    List.find?_eq_none.mpr fun y hy => by simpa using hnone y hy
  simp only [Device.offerTrigger, h, if_neg ha, hfind]

theorem LineRecord.pollKind_of_quiet {r : LineRecord} (h : r.sensor = .ok ∧ (r.pollCount + 1) % 8 ≠ 0) :
    r.pollKind = .normal := by
  obtain ⟨hs, hn⟩ := h
  unfold LineRecord.pollKind
  cases r.config.cable <;> simp [hs, hn]

/-- A check falls due by the sensor mark or by the count (R130). -/
theorem LineRecord.pollKind_of_check {r : LineRecord} (h : ¬(r.sensor = .ok ∧ (r.pollCount + 1) % 8 ≠ 0)) :
    r.pollKind = if r.config.cable = .none then .normal else if r.config.cable = .high then .checkHigh else .checkLow := by
  have hcheck : (decide (r.sensor ≠ .ok) || decide ((r.pollCount + 1) % 8 = 0)) = true := by
    rw [not_and_or, not_not] at h
    simpa using h
  unfold LineRecord.pollKind
  dsimp only
  rw [hcheck]
  cases r.config.cable <;> rfl

theorem slotEligible_iff (x : Slot) : d.slotEligible x = true ↔
    ∃ c : SlotCommand, x.command = some c ∧ x.state = .queued ∧
      ∀ p ∈ d.bridge.posted, d.lines[c.line].onStation p.station = true → c.order ≤ p.order := by
  unfold Device.slotEligible
  cases x.command with
  | none => simp
  | some c => simp

/-- The acceptance order of slot `k`. -/
def Device.orderOf (d : Device) (k : SlotId) : Nat := d.bridge.slots[k].orderKey

theorem mem_insertByOrder {k j : SlotId} {l : List SlotId} (h : j ∈ insertByOrder d k l) : j = k ∨ j ∈ l := by
  induction l with
  | nil => exact List.mem_cons.mp h
  | cons x l ih =>
    unfold insertByOrder at h
    split at h
    · exact List.mem_cons.mp h
    · obtain rfl | h := List.mem_cons.mp h
      · exact .inr List.mem_cons_self
      · exact (ih h).imp id (List.mem_cons_of_mem x)

theorem mem_foldr_insertByOrder {j : SlotId} {l : List SlotId} (h : j ∈ l.foldr (insertByOrder d) []) : j ∈ l := by
  induction l with
  | nil => exact h
  | cons x l ih =>
    obtain rfl | h := mem_insertByOrder h
    · exact List.mem_cons_self
    · exact List.mem_cons_of_mem x (ih h)

theorem insertByOrder_head_of_le {k : SlotId} {l : List SlotId} (h : ∀ j ∈ l, d.orderOf k ≤ d.orderOf j) :
    (insertByOrder d k l).head? = some k := by
  cases l with
  | nil => rfl
  | cons x l =>
    have hle : d.bridge.slots[k].orderKey ≤ d.bridge.slots[x].orderKey := h x List.mem_cons_self
    unfold insertByOrder
    rw [if_pos hle]
    rfl

theorem insertByOrder_head_of_lt {k j : SlotId} {l : List SlotId} (hl : l.head? = some j)
    (h : d.orderOf j < d.orderOf k) : (insertByOrder d k l).head? = some j := by
  obtain ⟨l, rfl⟩ := List.head?_eq_some_iff.mp hl
  have hlt : ¬d.bridge.slots[k].orderKey ≤ d.bridge.slots[j].orderKey := not_le.mpr h
  unfold insertByOrder
  rw [if_neg hlt]
  rfl

/-- The slot accepted before all others comes first. -/
theorem foldr_insertByOrder_head {k : SlotId} {l : List SlotId} (hk : k ∈ l)
    (h : ∀ j ∈ l, j ≠ k → d.orderOf k < d.orderOf j) : (l.foldr (insertByOrder d) []).head? = some k := by
  induction l with
  | nil => exact absurd hk List.not_mem_nil
  | cons x l ih =>
    rw [List.foldr_cons]
    by_cases hx : x = k
    · subst hx
      refine insertByOrder_head_of_le fun j hj => ?_
      by_cases hjx : j = x
      · rw [hjx]
      · exact (h j (List.mem_cons_of_mem x (mem_foldr_insertByOrder hj)) hjx).le
    · have hkl : k ∈ l := (List.mem_cons.mp hk).resolve_left (Ne.symm hx)
      exact insertByOrder_head_of_lt (ih hkl fun j hj => h j (List.mem_cons_of_mem x hj))
        (h x List.mem_cons_self hx)

theorem nextSlot_of_retry {k : SlotId} {ks : List SlotId} (h : d.bridge.retries = k :: ks) : d.nextSlot = some k := by
  simp only [Device.nextSlot, h]

theorem nextSlot_of_no_retry (h : d.bridge.retries = []) :
    d.nextSlot = (d.slotsInOrder d.slotEligible).head? := by
  simp only [Device.nextSlot, h]

theorem mem_eligibleSlots {j : SlotId} :
    j ∈ allSlots.filter (fun k => d.slotEligible d.bridge.slots[k]) ↔ d.slotEligible d.bridge.slots[j] = true := by
  rw [List.mem_filter, and_iff_right (mem_allSlots j)]

/-- R70: among the eligible slots the earliest accepted is offered. -/
theorem nextSlot_of_first {k : SlotId} (h : d.bridge.retries = []) (hk : d.slotEligible d.bridge.slots[k] = true)
    (hfirst : ∀ j : SlotId, j ≠ k → d.slotEligible d.bridge.slots[j] = true → d.orderOf k < d.orderOf j) :
    d.nextSlot = some k := by
  rw [nextSlot_of_no_retry h]
  exact foldr_insertByOrder_head (mem_eligibleSlots.mpr hk) fun j hj hjk => hfirst j hjk (mem_eligibleSlots.mp hj)

theorem nextSlot_of_none (h : d.bridge.retries = []) (hnone : ∀ k : SlotId, d.slotEligible d.bridge.slots[k] = false) :
    d.nextSlot = none := by
  have hempty : allSlots.filter (fun k => d.slotEligible d.bridge.slots[k]) = [] :=
    List.filter_eq_nil_iff.mpr fun k _ => by rw [hnone k]; exact Bool.false_ne_true
  rw [nextSlot_of_no_retry h, Device.slotsInOrder, hempty]
  rfl

theorem offerConfirmed_of_slot {k : SlotId} {c : SlotCommand} {b : Binding} (h : d.nextSlot = some k)
    (hc : d.bridge.slots[k].command = some c) (hb : d.lines[c.line].binding = some b) :
    d.offerConfirmed = some
      { owner := .confirmed k, station := some b.station, priority := 3, verb := c.verb.bus, drum := b.drum,
        kind := .normal, arg := c.sentArg } := by
  simp only [Device.offerConfirmed, h, hc, hb, Option.map_some]

theorem offerTend_of_entry {y : TendEntry} {b : Binding} (h : d.tend.find? (fun t => !t.sent) = some y)
    (hb : d.lines[y.line].binding = some b) :
    d.offerTend = some
      { owner := .tend y.line, station := some b.station, priority := 3, verb := y.direction.bus, drum := b.drum,
        kind := .normal, arg := y.step } := by
  simp only [Device.offerTend, h, hb, Option.map_some]

end Offers

/-- Settles O40: the steps of R107, the check of the head, and then each source's offer. -/
theorem schedulerOrder : Obligations.SchedulerOrder := by
  unfold Obligations.SchedulerOrder
  refine ⟨fun d => choose_of_busy, ?trigger, ?run, ?nothing, ?poll, ?sendThree, ?sendPoll, ?checked, ?prune, ?pruned,
    ?noAction, ?action, fun d => offerPoll_of_nil, ?pollLine, ?probe, ?noPosted, ?posted, ?confirmed, ?noConfirmed,
    ?noTend, ?tend, ?noStation, ?station, ?four⟩
  case trigger =>
    intro d o he ho h
    exact ⟨(choose_of_free he ho).trans (chooseFree_of_trigger h), send_pollRun d o, send_rotation d o⟩
  case run =>
    intro d p he ho h hrun hp
    exact (choose_of_free he ho).trans (chooseFree_of_run h hrun hp)
  case nothing =>
    intro d p he ho h hlist hp
    rw [choose_of_free he ho]
    by_cases hrun : d.bus.pollRun = 4
    · exact chooseFree_of_run h hrun hp
    · have hprune : Device.pruneHead 64 d = d := pruneHead_of_nil 64 hlist
      rw [chooseFree_of_poll h (.inl hrun)]
      have hthree := choosePollOrThree_of_three (d := d) (p := p)
      rw [hprune] at hthree
      exact hthree (offerPoll_of_nil hlist) hp
  case poll =>
    intro d o he ho h hrun hprune hpoll
    have hsend := choosePollOrThree_of_poll (d := d) (o := o)
    rw [hprune] at hsend
    rw [choose_of_free he ho, chooseFree_of_poll h hrun]
    exact hsend hpoll
  case sendThree =>
    intro d p
    refine ⟨rfl, ?_⟩
    show rotate (d.send p.2).bus.rotation p.1 = _
    rw [send_rotation]
    rfl
  case sendPoll =>
    intro d o
    refine ⟨?_, send_rotation d o⟩
    show min 4 ((d.send o).bus.pollRun + 1) = _
    rw [send_pollRun]
  case checked =>
    intro d he ho h hrun d'
    rw [choose_of_free he ho, chooseFree_of_poll h hrun]
    exact ⟨fun o => choosePollOrThree_of_poll, fun p => choosePollOrThree_of_three, choosePollOrThree_of_nothing⟩
  case prune =>
    intro d n
    refine ⟨pruneHead_of_nil n, fun i s f rest h => ⟨fun hdue => ?_, fun hstale => ?_⟩, fun st rest h =>
      ⟨fun hdue => ?_, fun hstale => ?_⟩⟩
    · exact pruneHead_of_due n h (by rw [Device.stale, hdue]; rfl)
    · rw [pruneHead_of_stale n h (by rw [Device.stale, hstale]; rfl), Device.dropHead, popPoll_of_cons h]
    · exact pruneHead_of_due n h (by rw [Device.stale, hdue]; rfl)
    · rw [pruneHead_of_stale n h (by rw [Device.stale, hstale]; rfl), Device.dropHead, popPoll_of_cons h]
  case pruned =>
    intro d hlen t
    have hparts : t = { d with quay := t.quay, scan := t.scan } := (pruneHead_sweepWork 64 d).parts
    have hlines : t.lines = d.lines := by rw [hparts]
    have hstations : t.stations = d.stations := by rw [hparts]
    have hstale : t.stale = d.stale := (pruneHead_sweepWork 64 d).stale_eq
    have hhead (p : PollEntry) (rest : List PollEntry) (hp : t.scan.pollList = p :: rest) : t.stale p = false := by
      rw [hstale]
      exact pruneHead_head 64 d (List.countP_le_length.trans hlen) p rest hp
    exact ⟨hlines, hstations, fun i s f rest h => by simpa [Device.stale] using hhead _ rest h,
      fun st rest h => by simpa [Device.stale] using hhead _ rest h⟩
  case noAction =>
    intro d h
    simp only [Device.offerTrigger, h]
  case action =>
    intro d r rs h
    refine ⟨fun ha => ?_, fun ha => offerTrigger_of_no_target h ha, fun before after y b ht hbefore hy hb => ?_⟩
    · simp only [Device.offerTrigger, h, if_pos ha]
    · have hfind : r.targets.find? (fun t => decide (t.state = .waiting)) = some y :=
        find?_of_split ht (fun x hx => decide_eq_false (hbefore x hx)) (decide_eq_true hy)
      refine ⟨fun ha => ?_, fun ha => ?_, fun ha => ?_⟩
      all_goals
        rw [offerTrigger_of_target h (by rw [ha]; exact TriggerAction.noConfusion) hfind hb, ha]
        rfl
  case pollLine =>
    intro d i s f rest b h hb r kind
    have hkind : r.pollKind = kind := by
      by_cases hquiet : r.sensor = .ok ∧ (r.pollCount + 1) % 8 ≠ 0
      · exact (LineRecord.pollKind_of_quiet hquiet).trans (if_pos hquiet).symm
      · refine (LineRecord.pollKind_of_check hquiet).trans (Eq.trans ?_ (if_neg hquiet).symm)
        cases r.config.cable <;> rfl
    simp only [Device.offerPoll, h, hb, Option.map_some]
    rw [hkind]
  case probe =>
    intro d st rest h drum
    simp only [Device.offerPoll, h]
    rfl
  case noPosted =>
    intro d h
    simp only [Device.offerPosted, h]
  case posted =>
    intro d p ps h
    refine ⟨fun hsent => ?_, fun hsent => ?_⟩
    · simp only [Device.offerPosted, h, if_pos hsent]
    · simp only [Device.offerPosted, h, hsent]
      cases p.verb <;> rfl
  case confirmed =>
    intro d k c b hc hb fits hnext
    have hfits (j : SlotId) (cj : SlotCommand) (hcj : d.bridge.slots[j].command = some cj)
        (hj : d.slotEligible d.bridge.slots[j] = true) : fits j cj := by
      obtain ⟨c', hc', hqueued, hposted⟩ := (slotEligible_iff _).mp hj
      obtain rfl : cj = c' := Option.some.inj (hcj.symm.trans hc')
      exact ⟨hcj, hqueued, hposted⟩
    have horder (j : SlotId) (cj : SlotCommand) (hcj : d.bridge.slots[j].command = some cj) : d.orderOf j = cj.order := by
      simp only [Device.orderOf, Slot.orderKey, hcj]
    have hslot : d.nextSlot = some k := by
      obtain ⟨ks, hretry⟩ | ⟨hretry, hk, hfirst⟩ := hnext
      · exact nextSlot_of_retry hretry
      · refine nextSlot_of_first hretry ((slotEligible_iff _).mpr ⟨c, hk⟩) fun j hjk hj => ?_
        obtain ⟨cj, hcj, -⟩ := (slotEligible_iff _).mp hj
        rw [horder k c hc, horder j cj hcj]
        exact hfirst j cj hjk (hfits j cj hcj hj)
    rw [offerConfirmed_of_slot hslot hc hb]
    cases c.verb <;> rfl
  case noConfirmed =>
    intro d hretry hlate
    have hnone (k : SlotId) : d.slotEligible d.bridge.slots[k] = false := by
      refine Bool.eq_false_of_not_eq_true fun hk => ?_
      obtain ⟨c, hc, hqueued, hposted⟩ := (slotEligible_iff _).mp hk
      obtain ⟨p, hp, hon, hlt⟩ := hlate k c hc hqueued
      exact absurd hlt (not_lt.mpr (hposted p hp hon))
    simp only [Device.offerConfirmed, nextSlot_of_none hretry hnone]
  case noTend =>
    intro d h
    have hfind : d.tend.find? (fun t => !t.sent) = none :=
      List.find?_eq_none.mpr fun y hy => by rw [h y hy]; exact Bool.false_ne_true
    simp only [Device.offerTend, hfind]
  case tend =>
    intro d before after y b h hbefore hy hb
    rw [offerTend_of_entry (find?_of_split h (fun x hx => by rw [hbefore x hx]; rfl) (by rw [hy]; rfl)) hb]
    cases y.direction <;> rfl
  case noStation =>
    intro d h
    simp only [Device.offerStation, h]
  case station =>
    intro d x xs h
    simp only [Device.offerStation, h]
    cases x.frame with
    | op o => cases o <;> rfl
    | stop drum => rfl
  case four =>
    intro d
    refine ⟨rfl, rfl, rfl, rfl, fun h => ?_, fun before after c o hrot hbefore hc => ?_⟩
    · exact List.findSome?_eq_none_iff.mpr fun c hc => by rw [h c hc]; rfl
    · unfold Device.chooseThree
      have hnone : before.findSome? (fun c => (d.offerThree c).map fun o => (c, o)) = none :=
        List.findSome?_eq_none_iff.mpr fun x hx => by rw [hbefore x hx]; rfl
      rw [hrot, List.findSome?_append, hnone, List.findSome?_cons, hc]
      rfl

/-! #### Settling (O41) -/

/-- What the choice on a free bus and its sending leave alone. -/
structure ChoiceKept (d d' : Device) : Prop where
  lines (i : LineId) : d'.lines[i].unsent = d.lines[i].unsent
  stations : d'.stations = d.stations
  hold : d'.hold = d.hold
  inputs : d'.trig.inputs = d.trig.inputs
  stationLost : d'.trig.stationLost = d.trig.stationLost
  entries : d'.trig.entries = d.trig.entries
  freeCount : d'.freeCount = d.freeCount
  quay : QuayKept d.quay d'.quay
  observer : d'.bus.observer = d.bus.observer
  nextOrder : d'.bridge.nextOrder = d.bridge.nextOrder

theorem ChoiceKept.refl (d : Device) : ChoiceKept d d :=
  ⟨fun _ => rfl, rfl, rfl, rfl, rfl, rfl, rfl, QuayKept.rfl' _, rfl, rfl⟩

theorem SweepWork.choiceKept {d d' : Device} (h : SweepWork d d') : ChoiceKept d d' where
  lines i := by rw [h.parts]
  stations := by rw [h.parts]
  hold := by rw [h.parts]
  inputs := by rw [h.parts]
  stationLost := by rw [h.parts]
  entries := by rw [h.parts]
  freeCount := by rw [h.parts]
  quay := h.quay
  observer := by rw [h.parts]
  nextOrder := by rw [h.parts]

theorem ChoiceKept.trans {a b c : Device} (h : ChoiceKept a b) (k : ChoiceKept b c) : ChoiceKept a c where
  lines i := (k.lines i).trans (h.lines i)
  stations := k.stations.trans h.stations
  hold := k.hold.trans h.hold
  inputs := k.inputs.trans h.inputs
  stationLost := k.stationLost.trans h.stationLost
  entries := k.entries.trans h.entries
  freeCount := k.freeCount.trans h.freeCount
  quay := h.quay.trans k.quay
  observer := k.observer.trans h.observer
  nextOrder := k.nextOrder.trans h.nextOrder

/-- Writing a line record with the same unsent part. -/
theorem put_unsent {v : Vector LineRecord 16} {i : LineId} {r : LineRecord} (h : r.unsent = v[i].unsent) (j : LineId) :
    (put v i r)[j].unsent = v[j].unsent := by
  rw [put_get]
  split
  next hj => rw [h, hj]
  next => rfl

theorem linesSent_unsent (d : Device) (o : Offer) (i : LineId) : (d.linesSent o)[i].unsent = d.lines[i].unsent := by
  unfold Device.linesSent
  split
  · split
    · refine put_unsent ?_ i
      rfl
    · rfl
  · refine put_unsent ?_ i
    rfl
  · rfl

theorem trigSent_kept (d : Device) (o : Offer) : d.trigSent o =
    { d.trig with actions := (d.trigSent o).actions, releaseTimers := (d.trigSent o).releaseTimers } := by
  unfold Device.trigSent
  split <;> rfl

theorem bridgeSent_nextOrder (d : Device) (o : Offer) : (d.bridgeSent o).nextOrder = d.bridge.nextOrder := by
  unfold Device.bridgeSent
  split <;> rfl

theorem send_choiceKept (d : Device) (o : Offer) : ChoiceKept d (d.send o) := by
  rw [send_eq, trigSent_kept]
  exact ⟨linesSent_unsent d o, rfl, rfl, rfl, rfl, rfl, rfl, QuayKept.rfl' _, rfl, bridgeSent_nextOrder d o⟩

/-- The scheduler's own state may change. -/
theorem bus_choiceKept (d : Device) (n : Nat) (l : List ClassThree) :
    ChoiceKept d { d with bus := { d.bus with pollRun := n, rotation := l } } :=
  ⟨fun _ => rfl, rfl, rfl, rfl, rfl, rfl, rfl, QuayKept.rfl' _, rfl, rfl⟩

theorem sendPoll_choiceKept (d : Device) (o : Offer) : ChoiceKept d (d.sendPoll o) :=
  (send_choiceKept d o).trans (bus_choiceKept _ _ _)

theorem sendThree_choiceKept (d : Device) (p : ClassThree × Offer) : ChoiceKept d (d.sendThree p) :=
  (send_choiceKept d p.2).trans (bus_choiceKept _ _ _)

theorem choosePollOrThree_choiceKept (d : Device) : ChoiceKept d d.choosePollOrThree := by
  have hprune := (pruneHead_sweepWork 64 d).choiceKept
  unfold Device.choosePollOrThree
  dsimp only
  split
  · exact hprune.trans (sendPoll_choiceKept _ _)
  · split
    · exact hprune.trans (sendThree_choiceKept _ _)
    · exact hprune

theorem chooseFree_choiceKept (d : Device) : ChoiceKept d d.chooseFree := by
  unfold Device.chooseFree
  split
  · exact send_choiceKept d _
  · split
    · split
      · exact sendThree_choiceKept d _
      · exact choosePollOrThree_choiceKept d
    · exact choosePollOrThree_choiceKept d

theorem choose_choiceKept (d : Device) : ChoiceKept d d.choose := by
  unfold Device.choose
  split
  · exact chooseFree_choiceKept d
  · exact ChoiceKept.refl d

/-- Settles O41: the choice leaves what `ChoiceKept` names, and re-forming ALM changes ALM alone. -/
theorem settlingLeavesTheRestAlone : Obligations.SettlingLeavesTheRestAlone := by
  unfold Obligations.SettlingLeavesTheRestAlone
  refine ⟨fun d h => ?busy, ?any⟩
  case busy =>
    rw [Device.settle, choose_of_busy h]
    rfl
  case any =>
    intro d t
    have h := choose_choiceKept d
    exact ⟨h.lines, h.stations, h.hold, h.inputs, h.stationLost, h.entries, h.freeCount, h.quay.link, h.quay.rxBuffer,
      h.quay.receiver, h.quay.silenceTimer, h.quay.hostSilent, h.quay.resetAwaiting, h.observer, h.nextOrder, rfl⟩

end Sys2Proof.Machine

/-! ### Loss of arbitration (O42)

A sending that loses arbitration is given back. `givenBack_eq` says what is restored for every owner; the item of each owner
is then followed through its sending and its return. -/

namespace Sys2Proof.Machine

/-! #### What is restored for every owner -/

/-- The owner's item comes back; nothing but the blocks that hold items may change. -/
theorem ownerUnsent_eq (d : Device) (x : Exchange) : d.ownerUnsent x =
    { d with lines := (d.ownerUnsent x).lines, tend := (d.ownerUnsent x).tend, bridge := (d.ownerUnsent x).bridge,
             trig := (d.ownerUnsent x).trig, scan := (d.ownerUnsent x).scan,
             bus := { d.bus with stationSource := (d.ownerUnsent x).bus.stationSource } } := by
  unfold Device.ownerUnsent
  cases x.owner with
  | trigger e i =>
    dsimp only
    split <;> rfl
  | stopAll e => rfl
  | pollLine i s f => cases s <;> rfl
  | probe st => rfl
  | posted =>
    dsimp only
    rw [updPosted_eq]
  | confirmed k =>
    dsimp only
    split <;> rfl
  | tend i => rfl
  | station =>
    dsimp only
    rw [updStationHead_eq]

/-- The part after a sending, with the scheduler's own state as a class leaves it (R107, R108). -/
def Device.taken (d : Device) (o : Offer) (run : Nat) (rotation : List ClassThree) : Device :=
  { d.send o with bus := { (d.send o).bus with pollRun := run, rotation := rotation } }

theorem send_taken (d : Device) (o : Offer) : d.send o = d.taken o d.bus.pollRun d.bus.rotation := by
  rw [Device.taken, send_eq]

theorem taken_exchange {d : Device} {o : Offer} {run : Nat} {rotation : List ClassThree} {x : Exchange}
    (h : (d.taken o run rotation).bus.exchange = some x) : x = d.exchangeFor o := by
  rw [Device.taken, send_eq] at h
  exact (Option.some.inj h).symm

/-- The part with the engine returned to IDLE after a sending, before the owner takes its item back. -/
def Device.idled (d : Device) (o : Offer) (run : Nat) (rotation : List ClassThree) : Device :=
  (d.taken o run rotation).engineIdle

theorem idled_eq (d : Device) (o : Offer) (run : Nat) (rotation : List ClassThree) : d.idled o run rotation =
    { d with lines := d.linesSent o, tend := d.tendSent o, bridge := d.bridgeSent o, trig := d.trigSent o,
             scan := d.scanSent o,
             bus := { d.bus with
               engine := .idle, exchange := none, window := none, response := none, pollRun := run, rotation := rotation
               stationSource := d.sourceSent o, nextAction := d.actionsAfter o } } := by
  rw [Device.idled, Device.taken, send_eq]
  rfl

/-- R113: the station's next action number comes back. -/
theorem actionsAfter_undone (d : Device) (o : Offer) :
    (match o.station with
      | some st => put (d.actionsAfter o) st (d.undoFor o).nextAction
      | none => d.actionsAfter o) = d.bus.nextAction := by
  unfold Device.actionsAfter Device.undoFor
  cases o.station with
  | none => rfl
  | some st =>
    dsimp only
    split
    · exact put_self _ _
    · rw [put_put, put_self]

/-- R113, for every owner. -/
theorem givenBack_eq (d : Device) (o : Offer) (run : Nat) (rotation : List ClassThree) :
    let u := (d.idled o run rotation).ownerUnsent (d.exchangeFor o)
    (d.taken o run rotation).loseArbitration (d.exchangeFor o) =
      { d with lines := u.lines, tend := u.tend, bridge := u.bridge, trig := u.trig, scan := u.scan,
               bus := { d.bus with
                 engine := .idle, exchange := none, window := none, response := none
                 stationSource := u.bus.stationSource } } := by
  intro u
  have hu : u = { d.idled o run rotation with
      lines := u.lines, tend := u.tend, bridge := u.bridge, trig := u.trig, scan := u.scan,
      bus := { (d.idled o run rotation).bus with stationSource := u.bus.stationSource } } := ownerUnsent_eq _ _
  have hlose : (d.taken o run rotation).loseArbitration (d.exchangeFor o) = { u with bus := { u.bus with
      nextAction := match o.station with
        | some st => put u.bus.nextAction st (d.undoFor o).nextAction
        | none => u.bus.nextAction
      rotation := d.bus.rotation, pollRun := d.bus.pollRun } } := rfl
  have hactions : u.bus.nextAction = d.actionsAfter o := by rw [hu, idled_eq]
  rw [hlose, hactions, actionsAfter_undone, hu, idled_eq]

/-! #### The items, sent and returned -/

section Items
variable {d : Device} {o : Offer} {run : Nat} {rotation : List ClassThree}

theorem ownerUnsent_posted {x : Exchange} (h : x.owner = .posted) (d : Device) : d.ownerUnsent x =
    { d with bridge := { d.bridge with
      posted := d.bridge.posted.modifyHead fun p => { p with sent := false, attempts := p.attempts - 1 } } } := by
  simp only [Device.ownerUnsent, h, updPosted_eq]

theorem ownerUnsent_station {x : Exchange} (h : x.owner = .station) (d : Device) : d.ownerUnsent x =
    { d with bus := { d.bus with
      stationSource := d.bus.stationSource.modifyHead fun x => { x with attempts := x.attempts - 1 } } } := by
  simp only [Device.ownerUnsent, h, updStationHead_eq]

/-- The posted head (R63). -/
theorem posted_returned (h : o.owner = .posted) (hhead : ∀ p ∈ d.bridge.posted.head?, p.sent = false) :
    ((d.idled o run rotation).ownerUnsent (d.exchangeFor o)).bridge = d.bridge := by
  rw [ownerUnsent_posted h, idled_eq]
  simp only [Device.bridgeSent, h, List.modifyHead_modifyHead]
  have hlist : d.bridge.posted.modifyHead ((fun p : PostedEntry => { p with sent := false, attempts := p.attempts - 1 }) ∘
      fun p => { p with sent := true, attempts := p.attempts + 1 }) = d.bridge.posted := by
    cases hp : d.bridge.posted with
    | nil => rfl
    | cons p ps =>
      have hsent : p.sent = false := hhead p (by rw [hp]; rfl)
      simp [← hsent]
  rw [hlist]

/-- The STATION head (R111). -/
theorem station_returned (h : o.owner = .station) :
    ((d.idled o run rotation).ownerUnsent (d.exchangeFor o)).bus.stationSource = d.bus.stationSource := by
  rw [ownerUnsent_station h, idled_eq]
  simp only [Device.sourceSent, h, List.modifyHead_modifyHead]
  cases d.bus.stationSource <;> simp

/-- A tend request (R55). -/
theorem tend_returned {i : LineId} (h : o.owner = .tend i) (hunsent : ∀ y ∈ d.tend, y.line = i → y.sent = false) :
    ((d.idled o run rotation).ownerUnsent (d.exchangeFor o)).tend = d.tend := by
  have hx : (d.exchangeFor o).owner = .tend i := h
  simp only [Device.ownerUnsent, hx, idled_eq, Device.updTend, Device.tendSent, h, List.map_map]
  refine (List.map_congr_left fun y hy => ?_).trans (List.map_id _)
  by_cases hi : y.line = i
  · obtain ⟨line, direction, step, sent, attempts⟩ := y
    obtain rfl : line = i := hi
    obtain rfl : sent = false := hunsent _ hy rfl
    simp
  · simp [hi]

theorem ownerUnsent_confirmed {x : Exchange} {k : SlotId} (h : x.owner = .confirmed k) (d : Device) :
    (d.ownerUnsent x).bridge =
      if d.bridge.slots[k].attempts ≤ 1 then
        { d.bridge with slots := put d.bridge.slots k { d.bridge.slots[k] with
            state := .queued, action := x.undo.slotAction, attempts := d.bridge.slots[k].attempts - 1 } }
      else
        { d.bridge with
          slots := put d.bridge.slots k { d.bridge.slots[k] with
            state := .issued, action := x.undo.slotAction, attempts := d.bridge.slots[k].attempts - 1 }
          retries := k :: d.bridge.retries } := by
  simp only [Device.ownerUnsent, h]
  by_cases hfirst : d.bridge.slots[k].attempts ≤ 1
  · rw [decide_eq_true hfirst, if_pos hfirst]
    rfl
  · rw [decide_eq_false hfirst, if_neg hfirst]
    rfl

/-- A confirmed slot after its sending, as its return finds it. -/
theorem idled_slot {k : SlotId} (h : o.owner = .confirmed k) :
    (d.idled o run rotation).bridge = { d.bridge with
      slots := put d.bridge.slots k { d.bridge.slots[k] with
        state := .issued, action := some (d.actionFor o), attempts := d.bridge.slots[k].attempts + 1 }
      retries := d.bridge.retries.erase k } := by
  rw [idled_eq]
  simp only [Device.bridgeSent, h]

theorem undo_slotAction {k : SlotId} (h : o.owner = .confirmed k) :
    (d.exchangeFor o).undo.slotAction = d.bridge.slots[k].action := by
  simp only [Device.exchangeFor, Device.undoFor, h]

/-- A slot on its first attempt (R71). -/
theorem queued_returned {k : SlotId} (h : o.owner = .confirmed k) (hstate : d.bridge.slots[k].state = .queued)
    (hattempts : d.bridge.slots[k].attempts = 0) (hretries : k ∉ d.bridge.retries) :
    ((d.idled o run rotation).ownerUnsent (d.exchangeFor o)).bridge = d.bridge := by
  have hx : (d.exchangeFor o).owner = .confirmed k := h
  rw [ownerUnsent_confirmed hx, idled_slot h, undo_slotAction h]
  dsimp only
  rw [put_get_self, put_put, hattempts, if_pos (le_refl 1), List.erase_of_not_mem hretries]
  have hslot : { d.bridge.slots[k] with state := .queued, attempts := 0 + 1 - 1 } = d.bridge.slots[k] := by
    rw [← hstate, ← hattempts]
    simp
  dsimp only at hslot ⊢
  rw [hslot, put_self]

/-- A slot on a later attempt (R70, R71). -/
theorem issued_returned {k : SlotId} {ks : List SlotId} (h : o.owner = .confirmed k)
    (hstate : d.bridge.slots[k].state = .issued) (hattempts : 0 < d.bridge.slots[k].attempts)
    (hretries : d.bridge.retries = k :: ks) :
    ((d.idled o run rotation).ownerUnsent (d.exchangeFor o)).bridge = d.bridge := by
  have hx : (d.exchangeFor o).owner = .confirmed k := h
  have hlater : ¬d.bridge.slots[k].attempts + 1 ≤ 1 := by omega
  rw [ownerUnsent_confirmed hx, idled_slot h, undo_slotAction h]
  dsimp only
  rw [put_get_self]
  dsimp only
  rw [if_neg hlater, hretries, List.erase_cons_head, ← hretries]
  have hslot : { d.bridge.slots[k] with state := .issued } = d.bridge.slots[k] := by rw [← hstate]
  rw [Nat.add_sub_cancel]
  dsimp only at hslot ⊢
  rw [hslot, put_put, put_self]

/-- A target's map, sent and returned. -/
theorem map_targets_returned {e : EntryId} {i : LineId} {l : List ActionRecord}
    (h : ∀ r ∈ l, r.entry = e → ∀ y ∈ r.targets, y.line = i → y.state = .waiting) :
    (l.map fun r => if r.entry = e then r.updTarget i fun t => { t with state := .sent, attempts := t.attempts + 1 }
        else r).map
      (fun r => if r.entry = e then r.updTarget i fun t => { t with state := .waiting, attempts := t.attempts - 1 }
        else r) = l := by
  rw [List.map_map]
  refine (List.map_congr_left fun r hr => ?_).trans (List.map_id _)
  by_cases he : r.entry = e
  · have htargets : (r.targets.map fun t => if t.line = i then { t with state := .sent, attempts := t.attempts + 1 }
          else t).map (fun t => if t.line = i then { t with state := .waiting, attempts := t.attempts - 1 } else t) =
        r.targets := by
      rw [List.map_map]
      refine (List.map_congr_left fun y hy => ?_).trans (List.map_id _)
      by_cases hi : y.line = i
      · obtain ⟨line, state, attempts, step⟩ := y
        obtain rfl : line = i := hi
        obtain rfl : state = .waiting := h r hr he _ hy rfl
        simp
      · simp [hi]
    simp only [Function.comp_apply, ActionRecord.updTarget, if_pos he, htargets, id]
  · simp [he]

theorem ownerUnsent_trigger {x : Exchange} {e : EntryId} {i : LineId} (h : x.owner = .trigger e i) (d : Device) :
    (d.ownerUnsent x).trig = { d.trig with
        actions := d.trig.actions.map fun r =>
          if r.entry = e then r.updTarget i fun t => { t with state := .waiting, attempts := t.attempts - 1 } else r
        releaseTimers := if x.frame.verb = .release then put d.trig.releaseTimers i x.undo.releaseTimer
          else d.trig.releaseTimers } ∧
      (d.ownerUnsent x).lines = (if x.frame.verb = .release then
          put d.lines i { d.lines[i] with triggerInFlight := x.undo.inFlight } else d.lines) ∧
      (d.ownerUnsent x).bridge = d.bridge ∧ (d.ownerUnsent x).tend = d.tend := by
  simp only [Device.ownerUnsent, h]
  split
  · exact ⟨rfl, rfl, rfl, rfl⟩
  · exact ⟨rfl, rfl, rfl, rfl⟩

/-- A trigger target with its line's action in flight and release timer (R94, R100). -/
theorem trigger_returned {e : EntryId} {i : LineId} (h : o.owner = .trigger e i)
    (hwaiting : ∀ r ∈ d.trig.actions, r.entry = e → ∀ y ∈ r.targets, y.line = i → y.state = .waiting) :
    let u := (d.idled o run rotation).ownerUnsent (d.exchangeFor o)
    u.trig = d.trig ∧ u.lines = d.lines ∧ u.bridge = d.bridge ∧ u.tend = d.tend := by
  intro u
  have hx : (d.exchangeFor o).owner = .trigger e i := h
  have hinFlight : (d.exchangeFor o).undo.inFlight = d.lines[i].triggerInFlight := by
    simp only [Device.exchangeFor, Device.undoFor, h]
  have htimer : (d.exchangeFor o).undo.releaseTimer = d.trig.releaseTimers[i] := by
    simp only [Device.exchangeFor, Device.undoFor, h]
  have hverb : (d.exchangeFor o).frame.verb = o.verb := rfl
  obtain ⟨htrig, hlines, hbridge, htend⟩ := ownerUnsent_trigger hx (d.idled o run rotation)
  refine ⟨htrig.trans ?_, hlines.trans ?_, hbridge.trans ?_, htend.trans ?_⟩
  · simp only [hverb, idled_eq, Device.trigSent, h, map_targets_returned hwaiting, htimer]
    split
    · rw [put_put, put_self]
    · rfl
  · simp only [hverb, idled_eq, Device.linesSent, h, hinFlight]
    split
    · rw [put_get_self, put_put]
      exact put_self _ _
    · rfl
  · simp only [idled_eq, Device.bridgeSent, h]
  · simp only [idled_eq, Device.tendSent, h]

/-- An entry returned to a list with no other for its line (R129). -/
theorem returnEntry_line {l : List PollEntry} {i : LineId} (s f : Bool) (h : ∀ p ∈ l, p.isLine i = false) :
    returnEntry l (.line i s f) = .line i s f :: l := by
  have hfilter : l.filter (fun x => !x.isLine i) = l :=
    List.filter_eq_self.mpr fun p hp => by rw [h p hp]; rfl
  have hsweep : (l.any fun x => match x with | .line j sj _ => decide (j = i) && sj | .probe _ => false) = false := by
    refine List.any_eq_false.mpr fun p hp => ?_
    have hp' := h p hp
    cases p with
    | line j sj fj =>
      have hj : decide (j = i) = false := hp'
      simp [hj]
    | probe st => simp
  have hfollow : (l.any fun x => match x with | .line j _ fj => decide (j = i) && fj | .probe _ => false) = false := by
    refine List.any_eq_false.mpr fun p hp => ?_
    have hp' := h p hp
    cases p with
    | line j sj fj =>
      have hj : decide (j = i) = false := hp'
      simp [hj]
    | probe st => simp
  have hreturn : returnEntry l (.line i s f) =
      .line i (s || (l.any fun x => match x with | .line j sj _ => decide (j = i) && sj | .probe _ => false))
        (f || (l.any fun x => match x with | .line j _ fj => decide (j = i) && fj | .probe _ => false)) ::
        l.filter (fun x => !x.isLine i) := rfl
  rw [hreturn, hsweep, hfollow, hfilter, Bool.or_false, Bool.or_false]

theorem returnEntry_probe {l : List PollEntry} {st : StationId} (h : ∀ p ∈ l, p.isProbe st = false) :
    returnEntry l (.probe st) = .probe st :: l :=
  congrArg (PollEntry.probe st :: ·) (List.filter_eq_self.mpr fun p hp => by rw [h p hp]; rfl)

/-- A member polled and given back (R126). -/
theorem member_returned {w : Sweep} {i : LineId} (h : ∀ m ∈ w.members, m.1 = i → m.2 = .outstanding) :
    { ({ w.setMember i .inFlight with sent := w.sent + 1 } : Sweep).setMember i .outstanding with
      sent := w.sent + 1 - 1 } = w := by
  have hmembers : (w.members.map fun p => if p.1 = i then (p.1, MemberState.inFlight) else p).map
      (fun p => if p.1 = i then (p.1, MemberState.outstanding) else p) = w.members := by
    rw [List.map_map]
    refine (List.map_congr_left fun m hm => ?_).trans (List.map_id _)
    by_cases hi : m.1 = i
    · simp [hi, ← h m hm hi, Prod.ext_iff]
    · simp [hi]
  simp only [Sweep.setMember, hmembers, Nat.add_sub_cancel]

theorem ownerUnsent_pollLine {x : Exchange} {i : LineId} {s f : Bool} (h : x.owner = .pollLine i s f) (d : Device) :
    (d.ownerUnsent x).scan = { d.scan with
        pollList := returnEntry d.scan.pollList (.line i s f)
        sweep := if s then d.scan.sweep.map fun w => { w.setMember i .outstanding with sent := w.sent - 1 }
          else d.scan.sweep } ∧
      (d.ownerUnsent x).lines = put d.lines i { d.lines[i] with pollCount := x.undo.pollCount } ∧
      (d.ownerUnsent x).bridge = d.bridge ∧ (d.ownerUnsent x).trig = d.trig := by
  simp only [Device.ownerUnsent, h]
  cases s
  · exact ⟨rfl, rfl, rfl, rfl⟩
  · exact ⟨rfl, rfl, rfl, rfl⟩

/-- A line's poll entry with its poll count and sweep member (R129, R130). -/
theorem pollLine_returned {i : LineId} {sweep followUp : Bool} {rest : List PollEntry}
    (h : o.owner = .pollLine i sweep followUp) (hlist : d.scan.pollList = .line i sweep followUp :: rest)
    (hrest : ∀ p ∈ rest, p.isLine i = false)
    (hsweep : sweep = true → ∀ w : Sweep, d.scan.sweep = some w → ∀ m ∈ w.members, m.1 = i → m.2 = .outstanding) :
    let u := (d.idled o run rotation).ownerUnsent (d.exchangeFor o)
    u.scan = d.scan ∧ u.lines = d.lines ∧ u.bridge = d.bridge ∧ u.trig = d.trig := by
  intro u
  have hx : (d.exchangeFor o).owner = .pollLine i sweep followUp := h
  have hcount : (d.exchangeFor o).undo.pollCount = d.lines[i].pollCount := by
    simp only [Device.exchangeFor, Device.undoFor, h]
  obtain ⟨hscan, hlines, hbridge, htrig⟩ := ownerUnsent_pollLine hx (d.idled o run rotation)
  refine ⟨hscan.trans ?_, hlines.trans ?_, hbridge.trans ?_, htrig.trans ?_⟩
  · have hsame : (if sweep then (if sweep then d.scan.sweep.map fun w => { w.setMember i .inFlight with sent := w.sent + 1 }
        else d.scan.sweep).map fun w => { w.setMember i .outstanding with sent := w.sent - 1 }
        else (if sweep then d.scan.sweep.map fun w => { w.setMember i .inFlight with sent := w.sent + 1 }
        else d.scan.sweep)) = d.scan.sweep := by
      cases sweep with
      | false => rfl
      | true =>
        cases hw : d.scan.sweep with
        | none => rfl
        | some w => exact congrArg some (member_returned (hsweep rfl w hw))
    simp only [idled_eq, Device.scanSent, h, hsame, hlist, List.tail_cons, returnEntry_line sweep followUp hrest]
    rw [← hlist]
  · simp only [idled_eq, Device.linesSent, h, hcount]
    rw [put_get_self, put_put]
    exact put_self _ _
  · simp only [idled_eq, Device.bridgeSent, h]
  · simp only [idled_eq, Device.trigSent, h]

theorem ownerUnsent_probe {x : Exchange} {st : StationId} (h : x.owner = .probe st) (d : Device) : d.ownerUnsent x =
    { d with scan := { d.scan with pollList := returnEntry d.scan.pollList (.probe st) } } := by
  simp only [Device.ownerUnsent, h]

/-- A probe's entry (R132). -/
theorem probe_returned {st : StationId} {rest : List PollEntry} (h : o.owner = .probe st)
    (hlist : d.scan.pollList = .probe st :: rest) (hrest : ∀ p ∈ rest, p.isProbe st = false) :
    let u := (d.idled o run rotation).ownerUnsent (d.exchangeFor o)
    u.scan = d.scan ∧ u.lines = d.lines ∧ u.bridge = d.bridge ∧ u.trig = d.trig := by
  intro u
  have hx : (d.exchangeFor o).owner = .probe st := h
  have hu : u = _ := ownerUnsent_probe hx (d.idled o run rotation)
  rw [hu]
  refine ⟨?_, ?_, ?_, ?_⟩
  · simp only [idled_eq, Device.scanSent, h, hlist, List.tail_cons, returnEntry_probe hrest]
    rw [← hlist]
  · simp only [idled_eq, Device.linesSent, h]
  · simp only [idled_eq, Device.bridgeSent, h]
  · simp only [idled_eq, Device.trigSent, h]

end Items

/-- Settles O42: `givenBack_eq` for every owner, and each owner's own item. -/
theorem lostArbitrationGivesBack : Obligations.LostArbitrationGivesBack := by
  unfold Obligations.LostArbitrationGivesBack
  have hexec (winner : Byte) (s : State) :
      exec (.arbitrationLost winner) s = .next { s with dev := (s.dev.arbitrationLost winner).settle } := rfl
  refine ⟨fun s x winner he hx hwins => ?lost, fun s winner he => ?notSending, ?three, ?trigger, ?pollLine, ?probe, ?stopAll,
    fun d x hdetached => ?detached⟩
  case lost =>
    rw [hexec]
    simp only [Device.arbitrationLost, he, hx, if_pos hwins]
    rfl
  case notSending =>
    rw [hexec]
    unfold Device.arbitrationLost
    split
    next hs _ => exact absurd hs he
    next => rfl
  case three =>
    intro d c o x hx t
    have htaken : d.sendThree (c, o) = d.taken o 0 (rotate (d.send o).bus.rotation c) := rfl
    have ht : t = (d.sendThree (c, o)).loseArbitration x := rfl
    obtain rfl := taken_exchange (htaken ▸ hx)
    rw [htaken, givenBack_eq] at ht
    rw [ht]
    exact ⟨rfl, rfl, rfl, rfl, rfl, rfl, rfl, rfl, posted_returned, station_returned, fun i => tend_returned,
      fun k => queued_returned, fun k ks => issued_returned⟩
  case trigger =>
    intro d o x e i hx h hwaiting t
    have ht : t = (d.send o).loseArbitration x := rfl
    obtain rfl := taken_exchange (send_taken d o ▸ hx)
    rw [send_taken, givenBack_eq] at ht
    obtain ⟨htrig, hlines, hbridge, htend⟩ :=
      trigger_returned (run := d.bus.pollRun) (rotation := d.bus.rotation) h hwaiting
    rw [ht]
    exact ⟨rfl, rfl, rfl, rfl, htrig, hlines, hbridge, htend, rfl, rfl⟩
  case pollLine =>
    intro d o x i sweep followUp rest hx h _ hlist hrest hsweep t
    have htaken : d.sendPoll o = d.taken o (min 4 ((d.send o).bus.pollRun + 1)) (d.send o).bus.rotation := rfl
    have ht : t = (d.sendPoll o).loseArbitration x := rfl
    obtain rfl := taken_exchange (htaken ▸ hx)
    rw [htaken, givenBack_eq] at ht
    obtain ⟨hscan, hlines, hbridge, htrig⟩ := pollLine_returned (run := min 4 ((d.send o).bus.pollRun + 1))
      (rotation := (d.send o).bus.rotation) h hlist hrest hsweep
    rw [ht]
    exact ⟨rfl, rfl, rfl, rfl, hscan, hlines, hbridge, htrig, rfl⟩
  case probe =>
    intro d o x st rest hx h _ hlist hrest t
    have htaken : d.sendPoll o = d.taken o (min 4 ((d.send o).bus.pollRun + 1)) (d.send o).bus.rotation := rfl
    have ht : t = (d.sendPoll o).loseArbitration x := rfl
    obtain rfl := taken_exchange (htaken ▸ hx)
    rw [htaken, givenBack_eq] at ht
    obtain ⟨hscan, hlines, hbridge, htrig⟩ := probe_returned (run := min 4 ((d.send o).bus.pollRun + 1))
      (rotation := (d.send o).bus.rotation) h hlist hrest
    rw [ht]
    exact ⟨rfl, rfl, rfl, rfl, hscan, hlines, hbridge, htrig, rfl⟩
  case stopAll =>
    intro d o x e hx h
    obtain rfl := taken_exchange (send_taken d o ▸ hx)
    have hu : (d.idled o d.bus.pollRun d.bus.rotation).ownerUnsent (d.exchangeFor o) =
        d.idled o d.bus.pollRun d.bus.rotation := by
      have hx : (d.exchangeFor o).owner = .stopAll e := h
      simp only [Device.ownerUnsent, hx]
    rw [send_taken, givenBack_eq, hu, idled_eq]
    simp only [Device.linesSent, Device.tendSent, Device.bridgeSent, Device.trigSent, Device.scanSent, Device.sourceSent, h]
  case detached =>
    rw [Device.loseArbitration]
    simp only [hdetached, if_true]
    rfl

end Sys2Proof.Machine

/-! ### The Station Monitor and the ends of an exchange (O43, O44, O46) -/

namespace Sys2Proof.Machine

/-! #### The Station Monitor's operations -/

/-- R25, R138: every line of a station with resync pending. -/
theorem resyncStation_eq (d : Device) (st : StationId) : d.resyncStation st =
    { d with lines := (d.linesOf st).foldl (fun v i => put v i { v[i] with resync := true }) d.lines } := by
  have hfold (l : List LineId) (d : Device) : l.foldl Device.setResync d =
      { d with lines := l.foldl (fun v i => put v i { v[i] with resync := true }) d.lines } := by
    induction l generalizing d with
    | nil => rfl
    | cons i l ih => exact ih _
  exact hfold _ d

theorem linesOf_nodup (d : Device) (st : StationId) : (d.linesOf st).Nodup := List.Nodup.filter _ (by decide)

theorem resyncStation_lines (d : Device) (st : StationId) (i : LineId) : (d.resyncStation st).lines[i] =
    if d.lines[i].onStation st = true then { d.lines[i] with resync := true } else d.lines[i] := by
  rw [resyncStation_eq]
  refine (foldl_put_get (fun r : LineRecord => { r with resync := true }) _ (linesOf_nodup d st) d.lines i).trans ?_
  simp only [mem_linesOf]

/-- R132: only the Scan Unit changes. -/
theorem syncProbe_eq (d : Device) (st : StationId) : d.syncProbe st = { d with scan := (d.syncProbe st).scan } := by
  unfold Device.syncProbe
  split
  · split <;> rfl
  · rfl

theorem syncProbe_probe (d : Device) (st : StationId) :
    (d.syncProbe st).scan.probe[st].isSome = d.stations[st].probeDue := by
  unfold Device.syncProbe
  split
  next hdue =>
    split
    next hrunning => exact hrunning.trans hdue.symm
    next => exact (congrArg Option.isSome (put_get_self _ _ _)).trans hdue.symm
  next hdue =>
    exact (congrArg Option.isSome (put_get_self _ _ _)).trans (Bool.eq_false_of_not_eq_true hdue).symm

theorem dropStation_eq (d : Device) (p : StationItem → Bool) : d.dropStation p = { d with bus := { d.bus with
    stationSource := d.bus.stationSource.filter fun x => !p x, exchange := (d.dropStation p).bus.exchange } } := by
  have hdetach (e : Device) (o : FrameOwner) :
      e.detach o = { e with bus := { e.bus with exchange := (e.detach o).bus.exchange } } := by
    unfold Device.detach
    split
    · split <;> rfl
    · rfl
  unfold Device.dropStation
  dsimp only
  split
  · split
    · rw [hdetach]
    · rfl
  · rfl

/-- R135: the frame of the operation leaves the STATION source, and its outcome is stored. -/
theorem endOperation_eq (d : Device) (st : StationId) (op : StationOp) (o : OpOutcome) : d.endOperation st op o =
    { d with
      stations := put d.stations st { d.stations[st] with outcome := some (op, o) }
      bus := { d.bus with
        stationSource := d.bus.stationSource.filter fun x => !x.isOpFor st
        exchange := (d.dropStation (StationItem.isOpFor st)).bus.exchange } } := by
  rw [Device.endOperation, dropStation_eq]
  rfl

theorem StationItem.isOpFor_iff (st : StationId) (x : StationItem) :
    x.isOpFor st = true ↔ x.station = st ∧ ∃ op : StationOp, x.frame = .op op := by
  unfold StationItem.isOpFor
  cases x.frame <;> simp

/-- A station with no operation has no frame of one. -/
theorem filter_isOpFor_of_none {d : Device} {st : StationId} (h : (d.stationOperation st).isSome = false) :
    (d.bus.stationSource.filter fun x => !x.isOpFor st) = d.bus.stationSource := by
  refine List.filter_eq_self.mpr fun x hx => ?_
  rw [Bool.not_eq_true', ← Bool.not_eq_true]
  intro hop
  rw [← Bool.not_eq_true, stationOperation_isSome_iff] at h
  exact h ⟨x, hx, (StationItem.isOpFor_iff st x).mp hop⟩

/-! #### A valid response, step by step (R138) -/

/-- What a step of the Station Monitor does beside its own station's record: `resync` says that the station's lines are
marked, `reset` that a reset completed (R148), `probed` that the Scan Unit was told (R132). -/
structure MonitorStep (st : StationId) (resync reset probed : Bool) (d d' : Device) : Prop where
  others (st' : StationId) (h : st' ≠ st) : d'.stations[st'] = d.stations[st']
  lines (i : LineId) : d'.lines[i] =
    if resync = true ∧ d.lines[i].onStation st = true then { d.lines[i] with resync := true } else d.lines[i]
  nextAction : d'.bus.nextAction = if reset then put d.bus.nextAction st 0 else d.bus.nextAction
  source : d'.bus.stationSource =
    if reset then d.bus.stationSource.filter (fun y => !y.isOpFor st) else d.bus.stationSource
  scan : probed = false → d'.scan = d.scan
  due : probed = false → d'.stations[st].probeDue = d.stations[st].probeDue
  probe : probed = true → d'.scan.probe[st].isSome = d'.stations[st].probeDue
  quay : d'.quay = d.quay
  tend : d'.tend = d.tend
  bridge : d'.bridge = d.bridge
  trig : d'.trig = d.trig
  hold : d'.hold = d.hold

theorem MonitorStep.refl (st : StationId) (d : Device) : MonitorStep st false false false d d where
  others _ _ := rfl
  lines _ := by simp
  nextAction := rfl
  source := rfl
  scan _ := rfl
  due _ := rfl
  probe h := absurd h Bool.false_ne_true
  quay := rfl
  tend := rfl
  bridge := rfl
  trig := rfl
  hold := rfl

theorem onStation_resync (r : LineRecord) (st : StationId) : ({ r with resync := true } : LineRecord).onStation st =
    r.onStation st := rfl

theorem MonitorStep.trans {st : StationId} {a b c a' b' c' : Bool} {d e f : Device} (h : MonitorStep st a b c d e)
    (k : MonitorStep st a' b' c' e f) : MonitorStep st (a || a') (b || b') (c || c') d f where
  others st' hst := (k.others st' hst).trans (h.others st' hst)
  lines i := by
    rw [k.lines, h.lines]
    generalize d.lines[i] = r
    cases a <;> cases a' <;> cases hon : r.onStation st <;> simp [hon, onStation_resync]
  nextAction := by
    rw [k.nextAction, h.nextAction]
    cases b <;> cases b' <;> simp
  source := by
    rw [k.source, h.source]
    cases b <;> cases b' <;> simp [List.filter_filter]
  scan hc := by
    obtain ⟨hc, hc'⟩ := Bool.or_eq_false_iff.mp hc
    exact (k.scan hc').trans (h.scan hc)
  due hc := by
    obtain ⟨hc, hc'⟩ := Bool.or_eq_false_iff.mp hc
    exact (k.due hc').trans (h.due hc)
  probe hc := by
    cases hc' : c' with
    | true => exact k.probe hc'
    | false =>
      rw [hc', Bool.or_false] at hc
      rw [k.scan hc', k.due hc']
      exact h.probe hc
  quay := k.quay.trans h.quay
  tend := k.tend.trans h.tend
  bridge := k.bridge.trans h.bridge
  trig := k.trig.trans h.trig
  hold := k.hold.trans h.hold

/-- A write of the station's record that leaves its need of probes alone. -/
theorem setStation_step {d : Device} {st : StationId} {r : StationRecord} (h : r.probeDue = d.stations[st].probeDue) :
    MonitorStep st false false false d (d.setStation st r) where
  others _ hst := put_get_ne _ _ hst
  lines _ := by simp
  nextAction := rfl
  source := rfl
  scan _ := rfl
  due _ := (congrArg StationRecord.probeDue (put_get_self _ _ _)).trans h
  probe h := absurd h Bool.false_ne_true
  quay := rfl
  tend := rfl
  bridge := rfl
  trig := rfl
  hold := rfl

/-- A write of the station's record of which the Scan Unit is told. -/
theorem setStation_syncProbe_step (d : Device) (st : StationId) (r : StationRecord) :
    MonitorStep st false false true d ((d.setStation st r).syncProbe st) := by
  rw [syncProbe_eq]
  exact {
    others := fun _ hst => put_get_ne _ _ hst
    lines := fun _ => by simp
    nextAction := rfl
    source := rfl
    scan := fun h => absurd h.symm Bool.false_ne_true
    due := fun h => absurd h.symm Bool.false_ne_true
    probe := fun _ => syncProbe_probe _ st
    quay := rfl
    tend := rfl
    bridge := rfl
    trig := rfl
    hold := rfl }

theorem resyncStation_step (d : Device) (st : StationId) : MonitorStep st true false false d (d.resyncStation st) := by
  have hlines := resyncStation_lines d st
  rw [resyncStation_eq] at hlines ⊢
  exact {
    others := fun _ _ => rfl
    lines := fun i => by simpa using hlines i
    nextAction := rfl
    source := rfl
    scan := fun _ => rfl
    due := fun _ => rfl
    probe := fun h => absurd h Bool.false_ne_true
    quay := rfl
    tend := rfl
    bridge := rfl
    trig := rfl
    hold := rfl }

theorem syncProbe_stations (d : Device) (st : StationId) : (d.syncProbe st).stations = d.stations := by
  rw [syncProbe_eq]

theorem resyncStation_stations (d : Device) (st : StationId) : (d.resyncStation st).stations = d.stations := by
  rw [resyncStation_eq]

/-- Whether a valid response makes the station PRESENT (R138, step 2). -/
def StationRecord.gains (r : StationRecord) : Bool :=
  decide (r.presence = .absent) && r.enabled && decide (r.power = .on)

theorem StationRecord.gains_iff (r : StationRecord) :
    r.gains = true ↔ r.presence = .absent ∧ r.enabled = true ∧ r.power = .on := by
  simp only [StationRecord.gains, Bool.and_eq_true, decide_eq_true_eq, and_assoc]

theorem resync_syncProbe_step {d : Device} {st : StationId} :
    MonitorStep st true false true d ((d.resyncStation st).syncProbe st) := by
  have hset : (d.resyncStation st).setStation st (d.resyncStation st).stations[st] = d.resyncStation st := by
    rw [Device.setStation, put_self]
  have hsync := setStation_syncProbe_step (d.resyncStation st) st (d.resyncStation st).stations[st]
  rw [hset] at hsync
  exact (resyncStation_step d st).trans hsync

/-- Step 2. -/
theorem gainPresence_step (d : Device) (st : StationId) :
    MonitorStep st d.stations[st].gains false d.stations[st].gains d (d.gainPresence st).1 ∧
      (d.gainPresence st).1.stations[st] =
        { d.stations[st] with presence := if d.stations[st].gains then .present else d.stations[st].presence } ∧
      (d.gainPresence st).2 = { presence := d.stations[st].gains } := by
  unfold Device.gainPresence
  dsimp only
  by_cases hgains : d.stations[st].presence = .absent ∧ d.stations[st].enabled = true ∧ d.stations[st].power = .on
  · rw [if_pos hgains, (StationRecord.gains_iff _).mpr hgains]
    refine ⟨?_, ?_, rfl⟩
    · have hlines : MonitorStep st false false true d
          ((d.setStation st { d.stations[st] with presence := .present }).syncProbe st) :=
        setStation_syncProbe_step d st _
      have hsync := resync_syncProbe_step (d := d.setStation st { d.stations[st] with presence := .present }) (st := st)
      exact {
        others := fun st' hst => (hsync.others st' hst).trans (put_get_ne _ _ hst)
        lines := hsync.lines
        nextAction := hsync.nextAction
        source := hsync.source
        scan := fun h => absurd h.symm Bool.false_ne_true
        due := fun h => absurd h.symm Bool.false_ne_true
        probe := hsync.probe
        quay := hsync.quay
        tend := hsync.tend
        bridge := hsync.bridge
        trig := hsync.trig
        hold := hsync.hold }
    · rw [syncProbe_stations, resyncStation_stations]
      exact put_get_self _ _ _
  · rw [if_neg hgains, Bool.eq_false_of_not_eq_true (hgains ∘ (StationRecord.gains_iff _).mp)]
    exact ⟨MonitorStep.refl st d, rfl, rfl⟩

/-- R148: a reset completed, an operation held for the station ended. -/
theorem reset_step (d : Device) (st : StationId) (x : Option Exchange) (r : StationRecord)
    (hr : r.probeDue = d.stations[st].probeDue) :
    MonitorStep st false true false d { d with
      stations := put d.stations st r
      bus := { d.bus with
        stationSource := d.bus.stationSource.filter (fun y => !y.isOpFor st), exchange := x
        nextAction := put d.bus.nextAction st 0 } } where
  others _ hst := put_get_ne _ _ hst
  lines _ := by simp
  nextAction := rfl
  source := rfl
  scan _ := rfl
  due _ := (congrArg StationRecord.probeDue (put_get_self _ _ _)).trans hr
  probe h := absurd h Bool.false_ne_true
  quay := rfl
  tend := rfl
  bridge := rfl
  trig := rfl
  hold := rfl

/-- The operation of a station ended, if one is held (R148). -/
theorem endOperation_if_held (d : Device) (st : StationId) : ∃ x : Option Exchange,
    (if (d.stationOperation st).isSome then d.endOperation st .reset .acked else d) =
      { d with
        stations := put d.stations st { d.stations[st] with
          outcome := if (d.stationOperation st).isSome then some (.reset, .acked) else d.stations[st].outcome }
        bus := { d.bus with
          stationSource := d.bus.stationSource.filter (fun y => !y.isOpFor st), exchange := x } } := by
  cases hop : (d.stationOperation st).isSome with
  | true => exact ⟨_, endOperation_eq d st .reset .acked⟩
  | false =>
    refine ⟨d.bus.exchange, ?_⟩
    rw [filter_isOpFor_of_none hop]
    show d = { d with stations := put d.stations st d.stations[st] }
    rw [put_self]

/-- A reset's two last writes, on the part whose operation has ended. -/
theorem resetDone_eq (d : Device) (st : StationId) (b : Bus) (r : StationRecord) :
    ({ ({ d with stations := put d.stations st r, bus := b } : Device).updStation st
        fun r => { r with resetting := false } with
      bus := { b with nextAction := put b.nextAction st 0 } } : Device) =
    { d with
      stations := put d.stations st { r with resetting := false }, bus := { b with nextAction := put b.nextAction st 0 } } := by
  rw [updStation_eq, Device.setStation]
  dsimp only
  rw [put_get_self, put_put]

theorem completeReset_of_done {d : Device} {st : StationId} {done : Bool}
    (hdone : (done && d.stations[st].resetting) = true) : ∃ x : Option Exchange, d.completeReset st done =
      (({ d with
        stations := put d.stations st { d.stations[st] with
          resetting := false
          outcome := if (d.stationOperation st).isSome then some (.reset, .acked) else d.stations[st].outcome }
        bus := { d.bus with
          stationSource := d.bus.stationSource.filter (fun y => !y.isOpFor st), exchange := x
          nextAction := put d.bus.nextAction st 0 } } : Device).resyncStation st, { reset := true }) := by
  obtain ⟨x, hended⟩ := endOperation_if_held d st
  refine ⟨x, ?_⟩
  unfold Device.completeReset
  rw [if_pos hdone, hended]
  exact congrArg (fun e => (Device.resyncStation e st, ({ reset := true } : ChangeFlags))) (resetDone_eq d st _ _)

/-- Step 3. -/
theorem completeReset_step (d : Device) (st : StationId) (done : Bool) :
    MonitorStep st (done && d.stations[st].resetting) (done && d.stations[st].resetting) false d
        (d.completeReset st done).1 ∧
      (d.completeReset st done).1.stations[st] =
        { d.stations[st] with
          resetting := d.stations[st].resetting && !(done && d.stations[st].resetting)
          outcome := if (done && d.stations[st].resetting) && (d.stationOperation st).isSome then some (.reset, .acked)
            else d.stations[st].outcome } ∧
      (d.completeReset st done).2 = { reset := done && d.stations[st].resetting } := by
  cases hdone : done && d.stations[st].resetting with
  | false =>
    rw [Device.completeReset, hdone]
    exact ⟨MonitorStep.refl st d, by simp, rfl⟩
  | true =>
    obtain ⟨x, hreset⟩ := completeReset_of_done hdone
    rw [hreset]
    refine ⟨(reset_step d st x { d.stations[st] with
      resetting := false
      outcome := if (d.stationOperation st).isSome then some (.reset, .acked) else d.stations[st].outcome } rfl).trans (resyncStation_step _ st), ?_, rfl⟩
    rw [resyncStation_stations]
    refine (put_get_self _ _ _).trans ?_
    simp

/-- Step 4. -/
theorem compareParked_step (d : Device) (st : StationId) (parked : Bool) :
    MonitorStep st false false (parked != d.stations[st].parked) d (d.compareParked st parked).1 ∧
      (d.compareParked st parked).1.stations[st] = { d.stations[st] with parked := parked } ∧
      (d.compareParked st parked).2 = { park := parked != d.stations[st].parked } := by
  unfold Device.compareParked
  by_cases h : d.stations[st].parked = parked
  · rw [if_pos h]
    subst h
    rw [bne_self_eq_false]
    exact ⟨MonitorStep.refl st d, rfl, rfl⟩
  · have hne : (parked != d.stations[st].parked) = true := by
      rw [bne_iff_ne]
      exact Ne.symm h
    rw [if_neg h, hne]
    refine ⟨setStation_syncProbe_step d st _, ?_, rfl⟩
    rw [syncProbe_stations]
    exact put_get_self _ _ _

/-- The record with the drive status of a drum stored (R149). -/
def StationRecord.stored (r : StationRecord) (drum : Drum) (s : DriveStatus) : StationRecord :=
  { r with driveA := if drum = .a then s else r.driveA, driveB := if drum = .b then s else r.driveB }

/-- Step 5. -/
theorem storeDrive_step (d : Device) (st : StationId) (drum : Drum) (s : DriveStatus) :
    MonitorStep st false false false d (d.storeDrive st drum s).1 ∧
      (d.storeDrive st drum s).1.stations[st] = d.stations[st].stored drum s ∧
      (d.storeDrive st drum s).2 =
        { fault := d.stations[st].driveFault != (d.stations[st].stored drum s).driveFault } := by
  have hstore : d.storeDrive st drum s = (d.setStation st (d.stations[st].stored drum s),
      { fault := d.stations[st].driveFault !=
        (d.setStation st (d.stations[st].stored drum s)).stations[st].driveFault }) := by
    cases drum <;> rfl
  have hget : (d.setStation st (d.stations[st].stored drum s)).stations[st] = d.stations[st].stored drum s :=
    put_get_self _ _ _
  rw [hstore]
  refine ⟨setStation_step rfl, hget, ?_⟩
  dsimp only
  rw [hget]

/-! #### The whole of R138 -/

/-- What a STATUS tells the Station Monitor, and what an ACK or NAK tells it. -/
structure MonitorNews where
  done : Bool
  parked : Bool
  driveA : DriveStatus
  driveB : DriveStatus

/-- The news of an answer, against the station's record. -/
def StationRecord.news (r : StationRecord) : Answer → MonitorNews
  | .ack | .nak => { done := false, parked := r.parked, driveA := r.driveA, driveB := r.driveB }
  | .status rep =>
    { done := rep.resetDone && r.resetting, parked := rep.parked
      driveA := (r.stored rep.drum rep.drive).driveA, driveB := (r.stored rep.drum rep.drive).driveB }

/-- Whether the news leave a drive fault (R149). -/
def MonitorNews.fault (n : MonitorNews) : Bool := decide (n.driveA = .driveFault) || decide (n.driveB = .driveFault)

/-- The flags that an answer sets (R137, R138). -/
def StationRecord.newsFlags (r : StationRecord) (n : MonitorNews) : ChangeFlags :=
  { presence := r.gains, park := n.parked != r.parked, fault := n.fault != r.driveFault, reset := n.done }

/-- The station's record after an answer, its flags as they were. -/
def StationRecord.answered (r : StationRecord) (held : Bool) (n : MonitorNews) : StationRecord :=
  { r with
    missed := 0, presence := if r.gains then .present else r.presence, resetting := r.resetting && !n.done
    outcome := if n.done && held then some (.reset, .acked) else r.outcome
    parked := n.parked, driveA := n.driveA, driveB := n.driveB }

/-- The part with the station's missed count at 0 (R138, step 1). -/
def Device.heardFrom (d : Device) (st : StationId) : Device := d.setStation st { d.stations[st] with missed := 0 }

/-- Steps 1 and 2. -/
theorem heardFrom_gain (d : Device) (st : StationId) :
    MonitorStep st d.stations[st].gains false d.stations[st].gains d ((d.heardFrom st).gainPresence st).1 ∧
      ((d.heardFrom st).gainPresence st).1.stations[st] =
        { d.stations[st] with
          missed := 0, presence := if d.stations[st].gains then .present else d.stations[st].presence } ∧
      ((d.heardFrom st).gainPresence st).2 = { presence := d.stations[st].gains } := by
  have hheard : MonitorStep st false false false d (d.heardFrom st) := setStation_step rfl
  have hrecord : (d.heardFrom st).stations[st] = { d.stations[st] with missed := 0 } := put_get_self _ _ _
  obtain ⟨hgain, hgainRecord, hflags⟩ := gainPresence_step (d.heardFrom st) st
  rw [hrecord] at hgain hgainRecord hflags
  have hboth := hheard.trans hgain
  simp only [Bool.false_or] at hboth
  exact ⟨hboth, hgainRecord, hflags⟩

/-- R138 up to its event: the part before the flags are set, and the flags. -/
def MonitorResult (d : Device) (st : StationId) (n : MonitorNews) (t : Device) : Prop :=
  ∃ e : Device, MonitorStep st (d.stations[st].gains || n.done) n.done
      (d.stations[st].gains || (n.parked != d.stations[st].parked)) d e ∧
    e.stations[st] = d.stations[st].answered (d.stationOperation st).isSome n ∧
    t = e.raiseChange st (d.stations[st].newsFlags n)

/-- An ACK or a NAK tells no more than that the station is there. -/
theorem monitorResult_plain (d : Device) (st : StationId) :
    MonitorResult d st
      { done := false, parked := d.stations[st].parked, driveA := d.stations[st].driveA, driveB := d.stations[st].driveB }
      (((d.heardFrom st).gainPresence st).1.raiseChange st ((d.heardFrom st).gainPresence st).2) := by
  obtain ⟨hgain, hrecord, hflags⟩ := heardFrom_gain d st
  have hfault : MonitorNews.fault ⟨false, d.stations[st].parked, d.stations[st].driveA, d.stations[st].driveB⟩ =
      d.stations[st].driveFault := rfl
  refine ⟨_, ?_, hrecord.trans ?_, ?_⟩
  · simpa using hgain
  · simp [StationRecord.answered]
  · rw [hflags, StationRecord.newsFlags, hfault]
    simp

theorem monitorResult_status (d : Device) (st : StationId) (rep : Report) :
    MonitorResult d st (d.stations[st].news (.status rep)) (d.monitorResponse st (.status rep)) := by
  obtain ⟨hgain, hgainRecord, hgainFlags⟩ := heardFrom_gain d st
  obtain ⟨p, hp⟩ : ∃ p, p = (d.heardFrom st).gainPresence st := ⟨_, rfl⟩
  rw [← hp] at hgain hgainRecord hgainFlags
  obtain ⟨hreset, hresetRecord, hresetFlags⟩ := completeReset_step p.1 st rep.resetDone
  have hop : p.1.stationOperation st = d.stationOperation st := by
    unfold Device.stationOperation
    rw [hgain.source]
    rfl
  rw [hgainRecord] at hreset hresetRecord hresetFlags
  rw [hop] at hresetRecord
  obtain ⟨q, hq⟩ : ∃ q, q = p.1.completeReset st rep.resetDone := ⟨_, rfl⟩
  rw [← hq] at hreset hresetRecord hresetFlags
  obtain ⟨hpark, hparkRecord, hparkFlags⟩ := compareParked_step q.1 st rep.parked
  rw [hresetRecord] at hpark hparkRecord hparkFlags
  obtain ⟨k, hk⟩ : ∃ k, k = q.1.compareParked st rep.parked := ⟨_, rfl⟩
  rw [← hk] at hpark hparkRecord hparkFlags
  obtain ⟨hdrive, hdriveRecord, hdriveFlags⟩ := storeDrive_step k.1 st rep.drum rep.drive
  rw [hparkRecord] at hdriveRecord hdriveFlags
  have hresponse : d.monitorResponse st (.status rep) = (k.1.storeDrive st rep.drum rep.drive).1.raiseChange st
      (((p.2.union q.2).union k.2).union (k.1.storeDrive st rep.drum rep.drive).2) := by
    rw [hk, hq, hp]
    rfl
  refine ⟨_, ?_, hdriveRecord.trans ?_, hresponse.trans ?_⟩
  · have hall := ((hgain.trans hreset).trans hpark).trans hdrive
    simpa [StationRecord.news] using hall
  · simp [StationRecord.answered, StationRecord.news, StationRecord.stored]
  · rw [hgainFlags, hresetFlags, hparkFlags, hdriveFlags]
    refine congrArg (Device.raiseChange _ st) ?_
    simp [ChangeFlags.union, StationRecord.newsFlags, StationRecord.news, StationRecord.stored, MonitorNews.fault,
      StationRecord.driveFault]
    exact Bool.xor_comm _ _

theorem monitorResponse_result (d : Device) (st : StationId) (a : Answer) :
    MonitorResult d st (d.stations[st].news a) (d.monitorResponse st a) := by
  cases a with
  | ack => exact monitorResult_plain d st
  | nak => exact monitorResult_plain d st
  | status rep => exact monitorResult_status d st rep

end Sys2Proof.Machine

/-! ### The ends of an exchange and the observer's plain moves (O43, O44, O46) -/

namespace Sys2Proof.Machine

/-- Two commands whose writes agree on the part in hand answer alike. -/
theorem next_onDevice_congr {s : State} {f g : Device → Device} (h : f s.dev = g s.dev) :
    (Host.Outcome.next (s.onDevice f) : Host.Outcome State Fault Refusal) = .next (s.onDevice g) := by
  rw [State.onDevice, State.onDevice, h]

section
variable {d : Device} {x : Exchange} {st : StationId} (order : SilenceOrder)

/-! #### An exchange that is being sent -/

theorem lastCharacter_of_station (hengine : d.bus.engine = .sending) (hx : d.bus.exchange = some x)
    (hst : x.station = some st) : d.lastCharacter = { d with bus := { d.bus with
      engine := .awaitingResponse, window := some d.quay.link.window, response := none } } := by
  simp only [Device.lastCharacter, hengine, hx, hst, Option.isSome_some, if_pos]

theorem broadcastDone_of_broadcast (hengine : d.bus.engine = .sending) (hx : d.bus.exchange = some x)
    (hst : x.station = none) : d.broadcastDone = d.endBroadcast x := by
  simp only [Device.broadcastDone, hengine, hx, hst, Option.isNone_none, if_pos]

theorem lastCharacter_of_not_sending (h : d.bus.engine ≠ .sending) : d.lastCharacter = d := by
  unfold Device.lastCharacter
  split
  next hengine _ => exact absurd hengine h
  next => rfl

theorem broadcastDone_of_not_sending (h : d.bus.engine ≠ .sending) : d.broadcastDone = d := by
  unfold Device.broadcastDone
  split
  next hengine _ => exact absurd hengine h
  next => rfl

theorem readBackMismatch_of_station (hengine : d.bus.engine = .sending) (hx : d.bus.exchange = some x)
    (hst : x.station = some st) : d.readBackMismatch order = d.engineIdle.endSilent x st order := by
  simp only [Device.readBackMismatch, hengine, hx, hst, Device.endExchange]

theorem readBackMismatch_of_broadcast (hengine : d.bus.engine = .sending) (hx : d.bus.exchange = some x)
    (hst : x.station = none) : d.readBackMismatch order = d.endBroadcast x := by
  simp only [Device.readBackMismatch, hengine, hx, hst]

/-- R118: the record of a STOP ALL is delivered, every target succeeded. -/
theorem endBroadcast_of_record {e : EntryId} {r : ActionRecord} (howner : x.owner = .stopAll e)
    (hr : d.trig.actions.find? (fun r => decide (r.entry = e)) = some r) : d.endBroadcast x =
      d.engineIdle.deliver { r with targets := r.targets.map fun t => { t with state := .succeeded } } := by
  have hr' : d.engineIdle.trig.actions.find? (fun r => decide (r.entry = e)) = some r := hr
  simp only [Device.endBroadcast, howner, hr']

theorem deliver_stations (d : Device) (r : ActionRecord) : (d.deliver r).stations = d.stations := by
  simp [Device.deliver]

theorem endBroadcast_stations (d : Device) (x : Exchange) : (d.endBroadcast x).stations = d.stations := by
  unfold Device.endBroadcast
  dsimp only
  split
  · split
    · exact deliver_stations _ _
    · rfl
  · rfl

/-! #### An exchange that awaits its response -/

theorem awaited_of_station (hengine : d.bus.engine = .awaitingResponse) (hx : d.bus.exchange = some x)
    (hst : x.station = some st) : d.awaited = some (x, st) := by
  simp only [Device.awaited, hengine, hx, hst, Option.map_some]

theorem responseBroken_of_awaited {cs : List Byte} (h : d.awaited = some (x, st)) (hcs : d.bus.response = some cs) :
    d.responseBroken order = d.engineIdle.endSilent x st order := by
  simp only [Device.responseBroken, h, hcs, Option.isSome_some, if_pos, Device.endExchange]

theorem windowExpires_of_awaited {ms : Nat} (h : d.awaited = some (x, st)) (hms : d.bus.window = some ms) :
    d.windowExpires order = d.engineIdle.endSilent x st order := by
  simp only [Device.windowExpires, h, hms, Option.isSome_some, if_pos, Device.endExchange]

/-! #### The silence, for the owner and for the Station Monitor -/

theorem ownerSilence_of_detached (lost : Bool) (h : x.detached = true) : d.ownerSilence x lost = d := by
  rw [Device.ownerSilence, if_pos h]

theorem ownerSilence_of_lost (h : x.detached = false) : d.ownerSilence x true = d.pollEnd x.owner false := by
  rw [Device.ownerSilence, if_neg (Bool.eq_false_iff.mp h), if_pos rfl]

theorem ownerSilence_of_not_lost (h : x.detached = false) :
    d.ownerSilence x false = (d.commandEnd x.owner .silence).pollEnd x.owner false := by
  rw [Device.ownerSilence, if_neg (Bool.eq_false_iff.mp h), if_neg Bool.false_ne_true]

theorem StationRecord.atLimit_iff (r : StationRecord) :
    r.atLimit = true ↔ r.presence = .present ∧ r.missedLimit ≤ min 15 (r.missed + 1) := by
  simp only [StationRecord.atLimit, Bool.and_eq_true, decide_eq_true_eq]

theorem monitorSilence_eq (d : Device) (st : StationId) : d.monitorSilence st =
    let missed := d.setStation st { d.stations[st] with missed := min 15 (d.stations[st].missed + 1) }
    if d.stations[st].atLimit then missed.dropOut st else missed := by
  rw [Device.monitorSilence, updStation_eq]

/-- R138, step 1: any valid response clears the count. -/
theorem monitorResponse_missed (d : Device) (st : StationId) (a : Answer) :
    (d.monitorResponse st a).stations[st].missed = 0 := by
  obtain ⟨e, -, hrecord, hresult⟩ := monitorResponse_result d st a
  rw [hresult, raiseChange_eq, queueEvents_eq]
  refine (congrArg StationRecord.missed (put_get_self _ _ _)).trans ?_
  exact congrArg StationRecord.missed hrecord

end

/-- Settles O43. -/
theorem lastCharacters : Obligations.LastCharacters := by
  unfold Obligations.LastCharacters
  refine ⟨?single, ?broadcast, endBroadcast_stations, ?outOfPlace⟩
  case single =>
    intro s x st hengine hx hst
    exact next_onDevice_congr (congrArg Device.settle (lastCharacter_of_station hengine hx hst))
  case broadcast =>
    intro s x e r hengine hx hst howner hr
    exact next_onDevice_congr (congrArg Device.settle
      ((broadcastDone_of_broadcast hengine hx hst).trans (endBroadcast_of_record howner hr)))
  case outOfPlace =>
    intro s h
    exact ⟨next_onDevice_congr (congrArg Device.settle (lastCharacter_of_not_sending h)),
      next_onDevice_congr (congrArg Device.settle (broadcastDone_of_not_sending h))⟩

/-- Settles O44. -/
theorem silentEndsOfAnExchange : Obligations.SilentEndsOfAnExchange := by
  unfold Obligations.SilentEndsOfAnExchange
  refine ⟨?mismatch, ?mismatchBroadcast, ?broken, ?window, ?orders, ?owner, ?below, ?limit, monitorResponse_missed⟩
  case mismatch =>
    intro s x st order hengine hx hst
    exact next_onDevice_congr (congrArg Device.settle (readBackMismatch_of_station order hengine hx hst))
  case mismatchBroadcast =>
    intro s x order hengine hx hst
    exact next_onDevice_congr (congrArg Device.settle
      ((readBackMismatch_of_broadcast order hengine hx hst).trans (broadcastDone_of_broadcast hengine hx hst).symm))
  case broken =>
    intro s x st order cs hengine hx hst hcs
    exact next_onDevice_congr (congrArg Device.settle
      (responseBroken_of_awaited order (awaited_of_station hengine hx hst) hcs))
  case window =>
    intro s x st order ms hengine hx hst hms
    exact next_onDevice_congr (congrArg Device.settle
      (windowExpires_of_awaited order (awaited_of_station hengine hx hst) hms))
  case orders =>
    intro d x st
    exact ⟨rfl, rfl⟩
  case owner =>
    intro d x lost
    exact ⟨ownerSilence_of_detached lost, ownerSilence_of_lost, ownerSilence_of_not_lost⟩
  case below =>
    intro d st h
    have hlimit : d.stations[st].atLimit = false := by
      rw [← Bool.not_eq_true, StationRecord.atLimit_iff]
      intro ⟨hpresent, hle⟩
      cases h with
      | inl habsent => exact Presence.noConfusion (hpresent.symm.trans habsent)
      | inr hlt => exact absurd hle (Nat.not_le.mpr hlt)
    refine ⟨hlimit, ?_⟩
    rw [monitorSilence_eq, hlimit]
    exact if_neg Bool.false_ne_true
  case limit =>
    intro d st hpresent hle
    have hlimit : d.stations[st].atLimit = true := (StationRecord.atLimit_iff _).mpr ⟨hpresent, hle⟩
    refine ⟨hlimit, ?_⟩
    rw [monitorSilence_eq, hlimit]
    exact if_pos rfl

/-! #### The observer -/

theorem trafficStarts_of_free {d : Device} (c : Byte) (hengine : d.bus.engine = .idle)
    (hobserver : d.bus.observer = .quiet) :
    d.trafficStarts c = d.setObserver (if isPendantChar c then .pendantFrame [c] else .foreign false) := by
  have hfree : d.bus.isFree = true := by simp only [Bus.isFree, hengine, hobserver, decide_true, Bool.and_self]
  rw [Device.trafficStarts, if_pos hfree, observeFirst]

theorem pendantWindowEnds_of_window {d : Device} {cs : List Byte} {w : Timer}
    (h : d.bus.observer = .pendantWindow cs w) : d.pendantWindowEnds = d.setObserver .quiet := by
  simp only [Device.pendantWindowEnds, h]

theorem answerChars_of_short {d : Device} (frame : List Byte) {c : Byte} {rest : List Byte} (order : FreeOrder)
    (h : rest.length + 1 < responseLength c) :
    d.answerChars frame (c :: rest) order = d.setObserver (.pendantResponse frame (c :: rest)) := by
  simp only [Device.answerChars, if_pos h]

theorem pendantResponseFirst_of_window {d : Device} {cs : List Byte} {w : Timer} (c : Byte)
    (h : d.bus.observer = .pendantWindow cs w) :
    d.pendantResponseFirst c = d.answerChars cs [c] .endingFirst := by
  simp only [Device.pendantResponseFirst, h]

/-- Settles O46. -/
theorem observerMoves : Obligations.ObserverMoves := by
  unfold Obligations.ObserverMoves
  refine ⟨?starts, ?window, ?answer, ?quiet, ?reset⟩
  case starts =>
    intro s c hengine hobserver
    exact next_onDevice_congr (congrArg Device.settle (trafficStarts_of_free c hengine hobserver))
  case window =>
    intro s cs w h
    exact next_onDevice_congr (congrArg Device.settle (pendantWindowEnds_of_window h))
  case answer =>
    intro s cs w c h hlong
    exact next_onDevice_congr (congrArg Device.settle
      ((pendantResponseFirst_of_window c h).trans (answerChars_of_short cs .endingFirst hlong)))
  case quiet =>
    intro s h
    refine next_onDevice_congr (congrArg Device.settle ?_)
    obtain ⟨cs, h⟩ | ⟨f, cs, h⟩ | h := h <;> simp only [Device.observerQuiet, h]
  case reset =>
    intro s h
    constructor <;> refine next_onDevice_congr (congrArg Device.settle ?_)
    · simp only [Device.quietAfterReset, h]
    · simp only [Device.observerQuiet, h]

end Sys2Proof.Machine

/-! ### The response to the part (O45) -/

namespace Sys2Proof.Machine

/-! #### What is a valid answer (R104, R115, R161) -/

theorem word16_toNat (hi lo : Byte) : (word16 hi lo).toNat = 256 * hi.toNat + lo.toNat := by
  rw [word16, BitVec.toNat_append, ← Nat.shiftLeft_add_eq_or_of_lt lo.isLt, Nat.shiftLeft_eq]
  omega

theorem getLsbD_iff (b : Byte) (n : Nat) : b.getLsbD n = true ↔ b.toNat / 2 ^ n % 2 = 1 := by
  rw [BitVec.getLsbD, Nat.testBit_eq_decide_div_mod_eq, decide_eq_true_eq]

/-- What a complete response must satisfy before its kind is looked at. -/
def Asked.accepts (q : Asked) (cs : List Byte) : Prop :=
  cs.length = responseLength (cs.getD 0 0) ∧ 2 ≤ responseLength (cs.getD 0 0) ∧
    crc8 (cs.take (responseLength (cs.getD 0 0) - 1)) = cs.getD (responseLength (cs.getD 0 0) - 1) 0 ∧
    (cs.getD 0 0).toNat % 32 = q.dest

theorem readAnswer_of_not_accepts {q : Asked} {cs : List Byte} (n : Nat) (h : ¬ q.accepts cs) :
    readAnswer q cs n = none := if_neg h

theorem readAnswer_of_kind1 {q : Asked} {cs : List Byte} (n : Nat) (h : q.accepts cs)
    (hkind : answerKind (cs.getD 0 0) = 1) : readAnswer q cs n = if q.poll then none else some .ack := by
  refine (if_pos h).trans ?_
  rw [hkind]
  rfl

theorem readAnswer_of_kind2 {q : Asked} {cs : List Byte} (n : Nat) (h : q.accepts cs)
    (hkind : answerKind (cs.getD 0 0) = 2) : readAnswer q cs n = some .nak := by
  refine (if_pos h).trans ?_
  rw [hkind]
  rfl

theorem readAnswer_of_kind3 {q : Asked} {cs : List Byte} (n : Nat) (h : q.accepts cs)
    (hkind : answerKind (cs.getD 0 0) = 3) : readAnswer q cs n =
      if q.poll ∧ (cs.getD 1 0).toNat % 2 = q.drum ∧ (cs.getD 1 0).toNat / 2 % 4 = q.kind then
        (kindOfBits ((cs.getD 1 0).toNat / 2 % 4)).map fun k => .status (readReport cs k n)
      else none := by
  refine (if_pos h).trans ?_
  rw [hkind]
  rfl

/-- Two characters of kind 1 or 2 with a good CRC-8 and the address asked for. -/
theorem accepts_of_two {q : Asked} {c : Byte} (hlength : responseLength c = 2) (hdest : c.toNat % 32 = q.dest) :
    q.accepts [c, crc8 [c]] := by
  have hfirst : [c, crc8 [c]].getD 0 0 = c := rfl
  unfold Asked.accepts
  rw [hfirst, hlength]
  exact ⟨rfl, Nat.le_refl 2, rfl, hdest⟩

theorem responseLength_of_kind0 {c : Byte} (h : answerKind c = 0) : responseLength c = 1 := by
  rw [responseLength, h]
  rfl

theorem responseLength_of_kind1 {c : Byte} (h : answerKind c = 1) : responseLength c = 2 := by
  rw [responseLength, h]
  rfl

theorem responseLength_of_kind2 {c : Byte} (h : answerKind c = 2) : responseLength c = 2 := by
  rw [responseLength, h]
  rfl

theorem responseLength_of_kind3 {c : Byte} (h : answerKind c = 3) : responseLength c = 9 := by
  rw [responseLength, h]
  rfl

theorem answerKind_ofNat {dest k : Nat} (h : dest < 32) (hk : k < 4) : answerKind (BitVec.ofNat 8 (dest + 32 * k)) = k := by
  rw [answerKind, BitVec.toNat_ofNat]
  omega

theorem dest_ofNat {dest k : Nat} (h : dest < 32) : (BitVec.ofNat 8 (dest + 32 * k)).toNat % 32 = dest := by
  rw [BitVec.toNat_ofNat]
  omega

theorem readAnswer_of_other_dest {q : Asked} {c : Byte} {rest : List Byte} (n : Nat) (h : c.toNat % 32 ≠ q.dest) :
    readAnswer q (c :: rest) n = none :=
  readAnswer_of_not_accepts n fun hacc => h hacc.2.2.2

/-- A response of kind 0 has one character, too few for an answer. -/
theorem readAnswer_of_kind0 {q : Asked} {c : Byte} {rest : List Byte} (n : Nat) (h : answerKind c = 0) :
    readAnswer q (c :: rest) n = none := by
  refine readAnswer_of_not_accepts n fun hacc => ?_
  have hlength : responseLength ((c :: rest).getD 0 0) = 1 := responseLength_of_kind0 h
  obtain ⟨-, htwo, -, -⟩ := hacc
  rw [hlength] at htwo
  omega

theorem readAnswer_of_bad_crc {q : Asked} {c k : Byte} (n : Nat) (h : k ≠ crc8 [c]) : readAnswer q [c, k] n = none := by
  refine readAnswer_of_not_accepts n fun hacc => ?_
  obtain ⟨hlength, -, hcrc, -⟩ := hacc
  rw [← hlength] at hcrc
  exact h hcrc.symm

theorem status_accepts_iff {q : Asked} {c0 c1 : Byte} {rest : List Byte} (hkind : answerKind c0 = 3) :
    q.accepts (c0 :: c1 :: rest) ↔
      rest.length = 7 ∧ crc8 (c0 :: c1 :: rest.take 6) = rest.getD 6 0 ∧ c0.toNat % 32 = q.dest := by
  have hlength : responseLength ((c0 :: c1 :: rest).getD 0 0) = 9 := responseLength_of_kind3 hkind
  unfold Asked.accepts
  rw [hlength]
  simp

theorem kindOfBits_three : kindOfBits 3 = none := rfl

theorem ite_getLsbD {α : Type} (b : Byte) (n : Nat) (x y : α) :
    (if b.toNat / 2 ^ n % 2 = 0 then x else y) = if b.getLsbD n = true then y else x := by
  by_cases hbit : b.toNat / 2 ^ n % 2 = 0
  case pos => rw [if_pos hbit, if_neg (by rw [getLsbD_iff]; omega)]
  case neg => rw [if_neg hbit, if_pos (by rw [getLsbD_iff]; omega)]

/-- Motion code 3 takes the free value (log entry 9). -/
theorem motionOfBits_free (c : Byte) (free : Fin 3) : motionOfBits (c.toNat / 64) free =
    (match c.toNat / 64 with
      | 0 => .stopped
      | 1 => .heaving
      | 2 => .paying
      | _ => (match free.val with | 0 => .stopped | 1 => .heaving | _ => .paying)) := by
  have hlt : c.toNat / 64 < 4 := by omega
  generalize c.toNat / 64 = m at hlt
  match m, hlt with
  | 0, _ => rfl
  | 1, _ => rfl
  | 2, _ => rfl
  | 3, _ => rfl

/-- The fields of a STATUS, from its bits (R161). -/
theorem readReport_eq (c0 c1 c2 c3 c4 c5 c6 c7 c8 : Byte) (kind : SampleKind) (n : Nat) :
    readReport [c0, c1, c2, c3, c4, c5, c6, c7, c8] kind n =
      { drum := if c1.getLsbD 0 = true then .b else .a
        kind := kind
        latch := (match c1.toNat / 8 % 4 with | 0 => .open_ | 1 => .closed | 2 => .moving | _ => .jammed)
        brake := if c1.getLsbD 5 = true then .free else .set
        drive := if c1.getLsbD 6 = true then .driveFault else .ok
        action := Fin.ofNat 16 c2.toNat
        status := (match c2.toNat / 16 % 4 with | 0 => .idle | 1 => .busy | 2 => .done | _ => .failed)
        motion := (match c2.toNat / 64 with
          | 0 => .stopped
          | 1 => .heaving
          | 2 => .paying
          | _ => (match (Config.reservedMotion n).val with | 0 => .stopped | 1 => .heaving | _ => .paying))
        resetDone := c3.getLsbD 0
        parked := c3.getLsbD 1
        length := 256 * c4.toNat + c5.toNat
        raw := (256 * c6.toNat + c7.toNat) % 4096 } := by
  have hdrum := ite_getLsbD c1 0 Drum.a .b
  rw [Nat.pow_zero, Nat.div_one] at hdrum
  refine Eq.mpr (Report.mk.injEq ..) ⟨hdrum, rfl, rfl, ite_getLsbD c1 5 _ _, ite_getLsbD c1 6 _ _, rfl, rfl,
    motionOfBits_free c2 (Config.reservedMotion n), rfl, rfl, word16_toNat c4 c5, ?_⟩
  exact congrArg (· % 4096) (word16_toNat c6 c7)

theorem readAnswer_status (q : Asked) (c0 c1 c2 c3 c4 c5 c6 c7 : Byte) (kind : SampleKind) (n : Nat)
    {k : Byte} (hcrc : k = crc8 [c0, c1, c2, c3, c4, c5, c6, c7])
    (h0 : answerKind c0 = 3) (hdest : c0.toNat % 32 = q.dest) (hpoll : q.poll = true) (hdrum : c1.toNat % 2 = q.drum)
    (hkind : c1.toNat / 2 % 4 = q.kind) (hk : kindOfBits q.kind = some kind) :
    readAnswer q [c0, c1, c2, c3, c4, c5, c6, c7, k] n =
      some (.status (readReport [c0, c1, c2, c3, c4, c5, c6, c7, k] kind n)) := by
  have hacc : q.accepts (c0 :: c1 :: [c2, c3, c4, c5, c6, c7, k]) := by
    rw [status_accepts_iff h0]
    refine ⟨rfl, ?_, hdest⟩
    simp only [List.getD_cons_succ, List.getD_cons_zero, hcrc, List.take]
  rw [readAnswer_of_kind3 n hacc h0, if_pos ⟨hpoll, hdrum, hkind⟩]
  show Option.map _ (kindOfBits (c1.toNat / 2 % 4)) = _
  rw [hkind, hk, Option.map_some]

theorem readAnswer_no_status {q : Asked} {c0 c1 : Byte} {rest : List Byte} (n : Nat) (h0 : answerKind c0 = 3)
    (h : q.poll = false ∨ c1.toNat % 2 ≠ q.drum ∨ c1.toNat / 2 % 4 ≠ q.kind ∨ c1.toNat / 2 % 4 = 3 ∨
      rest.length ≠ 7 ∨ crc8 (c0 :: c1 :: rest.take 6) ≠ rest.getD 6 0) :
    readAnswer q (c0 :: c1 :: rest) n = none := by
  by_cases hacc : q.accepts (c0 :: c1 :: rest)
  case neg => exact readAnswer_of_not_accepts n hacc
  case pos =>
    rw [readAnswer_of_kind3 n hacc h0]
    split
    next hasked =>
      obtain ⟨hpoll, hdrum, hkind⟩ := hasked
      obtain ⟨hlength, hcrc, -⟩ := (status_accepts_iff h0).mp hacc
      obtain h | h | h | h | h | h := h
      · exact absurd (hpoll.symm.trans h) Bool.true_eq_false.mp
      · exact absurd hdrum h
      · exact absurd hkind h
      · exact congrArg (Option.map fun k => Answer.status (readReport (c0 :: c1 :: rest) k n)) (congrArg kindOfBits h)
      · exact absurd hlength h
      · exact absurd hcrc h
    next => rfl

theorem BusVerb.code_eq_zero_iff (v : BusVerb) : codeBusVerb v = 0 ↔ v = .poll := by
  cases v <;> decide

/-- What the part's own frame asks. -/
theorem BusFrame.asked_eq (f : BusFrame) : f.asked =
    { dest := f.dest % 32, drum := (codeDrum f.drum).toNat, kind := (codeKind f.kind).toNat
      poll := decide (f.verb = .poll) } := by
  have hdrum : (codeDrum f.drum).toNat < 2 := by cases f.drum <;> decide
  have hkind : (codeKind f.kind).toNat < 3 := by cases f.kind <;> decide
  have hsecond : (BitVec.ofNat 8 (f.dest % 32 + 32 * (codeDrum f.drum).toNat + 64 * (codeKind f.kind).toNat)).toNat =
      f.dest % 32 + 32 * (codeDrum f.drum).toNat + 64 * (codeKind f.kind).toNat := by
    rw [BitVec.toNat_ofNat]
    omega
  refine Eq.mpr (Asked.mk.injEq ..) ⟨?_, ?_, ?_, decide_eq_decide.mpr (BusVerb.code_eq_zero_iff f.verb)⟩
  · refine (congrArg (· % 32) hsecond).trans ?_
    omega
  · refine (congrArg (· / 32 % 2) hsecond).trans ?_
    omega
  · refine (congrArg (· / 64) hsecond).trans ?_
    omega

/-! #### The characters of the response (R114) -/

section
variable {d : Device} {x : Exchange} {st : StationId} {c : Byte} {rest cs : List Byte} (order : SilenceOrder)

theorem responseFirst_of_none (h : d.bus.response = none) : d.responseFirst c order = d.responseChars [c] order := by
  rw [Device.responseFirst, h]
  rfl

theorem responseChars_of_short (h : d.awaited = some (x, st)) (hcs : d.bus.response.getD [] ++ cs = c :: rest)
    (hshort : rest.length + 1 < responseLength c) : d.responseChars cs order =
      { d with bus := { d.bus with window := none, response := some (c :: rest) } } := by
  simp only [Device.responseChars, h, hcs, if_pos hshort]

theorem responseChars_of_complete (h : d.awaited = some (x, st)) (hcs : d.bus.response.getD [] ++ cs = c :: rest)
    (hlength : (c :: rest).length = responseLength c) :
    d.responseChars cs order = d.takeResponse x st (c :: rest) order := by
  have hnot : ¬ rest.length + 1 < responseLength c := by
    rw [← hlength, List.length_cons]
    exact Nat.lt_irrefl _
  have htake : (c :: rest).take (responseLength c) = c :: rest := by rw [← hlength, List.take_length]
  simp only [Device.responseChars, h, hcs, if_neg hnot, htake]

theorem takeResponse_of_none {cs : List Byte} (h : readAnswer x.frame.asked cs d.freeCount = none) :
    d.takeResponse x st cs order = d.engineIdle.endSilent x st order := by
  simp only [Device.takeResponse, h, Device.endExchange, Option.isSome_none, Bool.false_and, Bool.false_eq_true, if_false]

theorem takeResponse_of_some {cs : List Byte} {a : Answer} (h : readAnswer x.frame.asked cs d.freeCount = some a) :
    d.takeResponse x st cs order =
      (((if usesReservedMotion cs then { d with freeCount := d.freeCount + 1 } else d).engineIdle.monitorResponse st
        a).ownerTakes x st a) := by
  simp only [Device.takeResponse, h, Device.endExchange, Option.isSome_some, Bool.true_and]

theorem responseFirst_of_kind0 (h : d.awaited = some (x, st)) (hnone : d.bus.response = none) (hkind : answerKind c = 0) :
    d.responseFirst c order = d.engineIdle.endSilent x st order := by
  have hcs : d.bus.response.getD [] ++ [c] = c :: [] := by
    rw [hnone]
    rfl
  rw [responseFirst_of_none order hnone, responseChars_of_complete order h hcs (responseLength_of_kind0 hkind).symm,
    takeResponse_of_none order (readAnswer_of_kind0 _ hkind)]

end

/-! #### The Station Monitor takes the answer (R138) -/

section
variable {d t : Device} {st : StationId} {n : MonitorNews}

theorem MonitorResult.record (h : MonitorResult d st n t) : t.stations[st] =
    { d.stations[st].answered (d.stationOperation st).isSome n with
      flags := d.stations[st].flags.union (d.stations[st].newsFlags n) } := by
  obtain ⟨e, -, hrecord, hresult⟩ := h
  rw [hresult, raiseChange_eq, queueEvents_eq]
  refine (put_get_self _ _ _).trans ?_
  rw [hrecord]
  rfl

theorem StationRecord.union_newsFlags (r : StationRecord) (n : MonitorNews) : r.flags.union (r.newsFlags n) =
    { r.flags with
      presence := r.flags.presence || r.gains, reset := r.flags.reset || n.done
      park := r.flags.park || (n.parked != r.parked), fault := r.flags.fault || (n.fault != r.driveFault) } := by
  simp only [ChangeFlags.union, StationRecord.newsFlags, Bool.or_false]

/-- Beside the flags and their event, the result is the last step's. -/
theorem MonitorResult.step (h : MonitorResult d st n t) : ∃ e : Device,
    MonitorStep st (d.stations[st].gains || n.done) n.done
      (d.stations[st].gains || (n.parked != d.stations[st].parked)) d e ∧
    t.stations[st].probeDue = e.stations[st].probeDue ∧ t.lines = e.lines ∧ t.bus = e.bus ∧ t.scan = e.scan ∧
    t.tend = e.tend ∧ t.bridge = e.bridge ∧ t.trig = e.trig ∧ t.hold = e.hold := by
  obtain ⟨e, hstep, -, hresult⟩ := h
  refine ⟨e, hstep, ?_⟩
  rw [hresult, raiseChange_eq, queueEvents_eq]
  exact ⟨(congrArg StationRecord.probeDue (put_get_self e.stations st _)).trans rfl, rfl, rfl, rfl, rfl, rfl, rfl, rfl⟩

theorem MonitorResult.others (h : MonitorResult d st n t) (st' : StationId) (hst : st' ≠ st) :
    t.stations[st'] = d.stations[st'] := by
  obtain ⟨e, hstep, -, hresult⟩ := h
  rw [hresult, raiseChange_eq, queueEvents_eq]
  exact (put_get_ne _ _ hst).trans (hstep.others st' hst)

/-- The flags' own event, from the flags before and the record after. -/
theorem MonitorResult.quay (h : MonitorResult d st n t) :
    t.quay = (d.queueEvents (stationChanges st d.stations[st].flags t.stations[st])).quay := by
  have hafter := h.record
  obtain ⟨e, hstep, hrecord, hresult⟩ := h
  rw [hafter, hresult, raiseChange_eq, hrecord]
  exact queueEvents_quay_congr (d' := e.setStation st _) hstep.quay _

end

end Sys2Proof.Machine

/-! ### The owner takes the answer (O45) -/

namespace Sys2Proof.Machine

/-! #### A command frame's end (R56, R64, R72, R78, R95) -/

section
variable {d : Device}

theorem ownerTakes_of_detached {x : Exchange} (st : StationId) (a : Answer) (h : x.detached = true) :
    d.ownerTakes x st a = d := if_pos h

theorem ownerTakes_of_attached {x : Exchange} (st : StationId) (h : x.detached = false) :
    d.ownerTakes x st .ack = (d.commandEnd x.owner .ack).pollEnd x.owner false ∧
      d.ownerTakes x st .nak = (d.commandEnd x.owner .nak).pollEnd x.owner false ∧
      ∀ rep : Report, d.ownerTakes x st (.status rep) = (d.stationReport st rep).pollEnd x.owner true := by
  have hnot : ¬ x.detached = true := Bool.eq_false_iff.mp h
  exact ⟨if_neg hnot, if_neg hnot, fun _ => if_neg hnot⟩

theorem tendEnd_ack {i : LineId} {y : TendEntry} (h : d.tend.find? (fun y => decide (y.line = i)) = some y) :
    d.tendEnd i .ack = { d with tend := d.tend.filter fun y => decide (y.line ≠ i) } := by
  simp only [Device.tendEnd, h]

theorem tendEnd_of_not_ack {i : LineId} {y : TendEntry} {a : CommandEnd}
    (h : d.tend.find? (fun y => decide (y.line = i)) = some y) (ha : a ≠ .ack) : d.tendEnd i a =
      if y.attempts < d.quay.link.retry then (d.updTend i fun y => { y with sent := false }).recheckTend i
      else ({ d with tend := d.tend.filter fun y => decide (y.line ≠ i) } : Device).queueEvent
        (.tendUndelivered i y.direction y.step y.attempts (if a = .nak then .nak else .silence)) := by
  cases a with
  | ack => exact absurd rfl ha
  | nak => simp only [Device.tendEnd, h, CommandEnd.lastAnswer, if_true]
  | silence => simp only [Device.tendEnd, h, CommandEnd.lastAnswer, reduceCtorEq, if_false]

theorem postedEnd_ack {p : PostedEntry} {ps : List PostedEntry} (h : d.bridge.posted = p :: ps) :
    d.postedEnd .ack = { d with bridge := { d.bridge with posted := ps } } := by
  simp only [Device.postedEnd, h, Device.popPosted, List.tail_cons]

theorem postedEnd_of_not_ack {p : PostedEntry} {ps : List PostedEntry} {a : CommandEnd}
    (h : d.bridge.posted = p :: ps) (ha : a ≠ .ack) : d.postedEnd a =
      if p.attempts < d.quay.link.retry then
        { d with bridge := { d.bridge with posted := { p with sent := false } :: ps } }
      else ({ d with bridge := { d.bridge with posted := ps } } : Device).queueEvent
        (.postedUndelivered p.line p.station p.verb p.arg p.attempts (if a = .nak then .nak else .noResponse)) := by
  cases a with
  | ack => exact absurd rfl ha
  | nak =>
    simp only [Device.postedEnd, h, Device.popPosted, List.tail_cons, updPosted_eq, List.modifyHead_cons,
      PostedEntry.undelivered]
  | silence =>
    simp only [Device.postedEnd, h, Device.popPosted, List.tail_cons, updPosted_eq, List.modifyHead_cons,
      PostedEntry.undelivered]

theorem confirmedEnd_ack {k : SlotId} {c : SlotCommand} (h : d.bridge.slots[k].command = some c) :
    d.confirmedEnd k .ack = (d.setSlot k { d.bridge.slots[k] with
      state := .awaiting, actionTimer := some (d.lines[c.line].config.actionTime c.verb), lastAnswer := none
      }).syncFollowUp c.line := by
  simp only [Device.confirmedEnd, h]

theorem confirmedEnd_of_not_ack {k : SlotId} {c : SlotCommand} {a : CommandEnd}
    (h : d.bridge.slots[k].command = some c) (ha : a ≠ .ack) : d.confirmedEnd k a =
      if d.bridge.slots[k].attempts < d.quay.link.retry then
        { d with bridge := { d.bridge with
          slots := put d.bridge.slots k
            { d.bridge.slots[k] with lastAnswer := some (if a = .nak then .nak else .silence) }
          retries := d.bridge.retries ++ [k] } }
      else d.endSlot k (if a = .nak then .refused else .noResponse) := by
  cases a with
  | ack => exact absurd rfl ha
  | nak => simp only [Device.confirmedEnd, h, CommandEnd.lastAnswer, if_true, Device.setSlot]
  | silence => simp only [Device.confirmedEnd, h, CommandEnd.lastAnswer, reduceCtorEq, if_false, Device.setSlot]

theorem triggerEnd_ack {e : EntryId} {i : LineId} {y : Target} (h : d.targetOf e i = some y) :
    d.triggerEnd e i .ack =
      (if decide (d.trig.entries[e].action = .release) && d.lines[i].triggerInFlight.isSome then
        { d.updTarget e i fun y => { y with state := .succeeded } with
          trig := { (d.updTarget e i fun y => { y with state := .succeeded }).trig with
            releaseTimers := put d.trig.releaseTimers i (some (d.lines[i].config.releaseTime * 100)) } }
      else d.updTarget e i fun y => { y with state := .succeeded }).deliverComplete := by
  simp only [Device.triggerEnd, h]
  rfl

theorem triggerEnd_of_not_ack {e : EntryId} {i : LineId} {y : Target} {a : CommandEnd} (h : d.targetOf e i = some y)
    (ha : a ≠ .ack) : d.triggerEnd e i a =
      if y.attempts < d.quay.link.retry then d.updTarget e i fun y => { y with state := .waiting }
      else (if decide (d.trig.entries[e].action = .release) then
        (d.updTarget e i fun y => { y with state := .failed }).endRelease i false
      else d.updTarget e i fun y => { y with state := .failed }).deliverComplete := by
  cases a with
  | ack => exact absurd rfl ha
  | nak => simp only [Device.triggerEnd, h]
  | silence => simp only [Device.triggerEnd, h]

variable {x : StationItem} {xs : List StationItem}

theorem stationEnd_stop_ack {drum : Drum} (h : d.bus.stationSource = x :: xs) (hframe : x.frame = .stop drum) :
    d.stationEnd .ack = { d with bus := { d.bus with stationSource := xs } } := by
  simp only [Device.stationEnd, h, hframe]

theorem stationEnd_stop_of_not_ack {drum : Drum} {a : CommandEnd} (h : d.bus.stationSource = x :: xs)
    (hframe : x.frame = .stop drum) (ha : a ≠ .ack) : d.stationEnd a =
      if x.attempts < d.quay.link.retry then d else { d with bus := { d.bus with stationSource := xs } } := by
  cases a with
  | ack => exact absurd rfl ha
  | nak => simp only [Device.stationEnd, h, hframe]
  | silence => simp only [Device.stationEnd, h, hframe]

theorem stationEnd_op_ack {op : StationOp} (h : d.bus.stationSource = x :: xs) (hframe : x.frame = .op op) :
    d.stationEnd .ack = d.operationAcked x.station op := by
  simp only [Device.stationEnd, h, hframe]

theorem stationEnd_op_of_not_ack {op : StationOp} {a : CommandEnd} (h : d.bus.stationSource = x :: xs)
    (hframe : x.frame = .op op) (ha : a ≠ .ack) : d.stationEnd a =
      if x.attempts < d.quay.link.retry then d else d.operationNotTaken x.station op := by
  cases a with
  | ack => exact absurd rfl ha
  | nak => simp only [Device.stationEnd, h, hframe]
  | silence => simp only [Device.stationEnd, h, hframe]

end

/-! #### The end of a station's operation (R147, R148) -/

theorem StationRecord.flags_park (f : ChangeFlags) (b : Bool) : f.union { park := b } = { f with park := f.park || b } := by
  simp [ChangeFlags.union]

theorem StationRecord.flags_reset (f : ChangeFlags) (b : Bool) :
    f.union { reset := b } = { f with reset := f.reset || b } := by
  simp [ChangeFlags.union]

/-- No flag is new, so no event is. -/
theorem stationChanges_of_same (st : StationId) {old : ChangeFlags} {r : StationRecord} (h : r.flags = old) :
    stationChanges st old r = [] := by
  have hnone : (old.without old).any = false := by simp [ChangeFlags.without, ChangeFlags.any]
  rw [stationChanges, h]
  exact if_neg (Bool.eq_false_iff.mp hnone)

theorem queueEvents_nil (d : Device) : d.queueEvents [] = d := rfl

/-- What the end of an operation leaves (R147, R148). -/
structure OperationEnd (st : StationId) (d t : Device) (r : StationRecord) : Prop where
  record : t.stations[st] = r
  source : t.bus.stationSource = d.bus.stationSource.filter fun y => !y.isOpFor st
  quay : t.quay = (d.queueEvents (stationChanges st d.stations[st].flags t.stations[st])).quay
  lines : t.lines = d.lines
  tend : t.tend = d.tend
  bridge : t.bridge = d.bridge
  trig : t.trig = d.trig

theorem OperationEnd.congr {st : StationId} {d t : Device} {r r' : StationRecord} (h : OperationEnd st d t r)
    (hr : r = r') : OperationEnd st d t r' := hr ▸ h

/-- An operation's end with a write of the record, its flags raised. -/
theorem operationEnd_raise (d : Device) (st : StationId) (b : Bus) (s : ScanUnit) (r : StationRecord) (f : ChangeFlags)
    (hsource : b.stationSource = d.bus.stationSource.filter fun y => !y.isOpFor st)
    (hflags : r.flags = d.stations[st].flags) :
    OperationEnd st d (({ d with stations := put d.stations st r, bus := b, scan := s } : Device).raiseChange st f)
      { r with flags := r.flags.union f } := by
  have hrecord : (put d.stations st r)[st] = r := put_get_self _ _ _
  rw [raiseChange_eq, queueEvents_eq]
  have hafter : (put (put d.stations st r) st { (put d.stations st r)[st] with
      flags := (put d.stations st r)[st].flags.union f })[st] = { r with flags := r.flags.union f } := by
    rw [put_get_self, hrecord]
  exact {
    record := hafter
    source := hsource
    quay := by
      dsimp only [Device.setStation]
      rw [hafter, hrecord, hflags]
      refine queueEvents_quay_congr ?_ _
      rfl
    lines := rfl
    tend := rfl
    bridge := rfl
    trig := rfl }

/-- The outcome stored, as the record of `d`'s own end. -/
theorem endOperation_stations (d : Device) (st : StationId) (op : StationOp) (o : OpOutcome) :
    (d.endOperation st op o).stations[st] = { d.stations[st] with outcome := some (op, o) } := by
  rw [endOperation_eq]
  exact put_get_self _ _ _

theorem updStation_endOperation (d : Device) (st : StationId) (op : StationOp) (o : OpOutcome)
    (f : StationRecord → StationRecord) : (d.endOperation st op o).updStation st f =
      { d with
        stations := put d.stations st (f { d.stations[st] with outcome := some (op, o) })
        bus := (d.endOperation st op o).bus } := by
  rw [updStation_eq, endOperation_stations, endOperation_eq]
  exact congrArg (fun v => ({ d with stations := v, bus := _ } : Device)) (put_put _ _ _ _)

theorem endOperation_source (d : Device) (st : StationId) (op : StationOp) (o : OpOutcome) :
    (d.endOperation st op o).bus.stationSource = d.bus.stationSource.filter fun y => !y.isOpFor st := by
  rw [endOperation_eq]

/-- An operation that ends with no flag. -/
theorem endOperation_end (d : Device) (st : StationId) (op : StationOp) (o : OpOutcome) :
    OperationEnd st d (d.endOperation st op o) { d.stations[st] with outcome := some (op, o) } where
  record := endOperation_stations d st op o
  source := endOperation_source d st op o
  quay := by
    rw [stationChanges_of_same st (by rw [endOperation_stations]), queueEvents_nil, endOperation_eq]
  lines := by rw [endOperation_eq]
  tend := by rw [endOperation_eq]
  bridge := by rw [endOperation_eq]
  trig := by rw [endOperation_eq]

theorem raiseChange_scan (d : Device) (st : StationId) (f : ChangeFlags) : (d.raiseChange st f).scan = d.scan := by
  rw [raiseChange_eq, queueEvents_eq]
  rfl

/-- The flags of a change are no part of a station's need of probes. -/
theorem raiseChange_probeDue (d : Device) (st : StationId) (f : ChangeFlags) :
    (d.raiseChange st f).stations[st].probeDue = d.stations[st].probeDue := by
  rw [raiseChange_eq, queueEvents_eq]
  exact (congrArg StationRecord.probeDue (put_get_self d.stations st _)).trans rfl

theorem operationAcked_end (d : Device) (st : StationId) (op : StationOp) :
    OperationEnd st d (d.operationAcked st op) { d.stations[st] with
      outcome := some (op, .acked), parked := d.stations[st].parked || decide (op = .park)
      flags := { d.stations[st].flags with park := d.stations[st].flags.park || decide (op = .park) } } := by
  cases op with
  | park =>
    have hraised := operationEnd_raise d st (d.endOperation st .park .acked).bus
      (((d.endOperation st .park .acked).updStation st fun r => { r with parked := true }).syncProbe st).scan
      { d.stations[st] with outcome := some (.park, .acked), parked := true } { park := true }
      (endOperation_source d st .park .acked) rfl
    have heq : ((d.endOperation st .park .acked).updStation st fun r => { r with parked := true }).syncProbe st =
        { d with
          stations := put d.stations st { d.stations[st] with outcome := some (.park, .acked), parked := true }
          bus := (d.endOperation st .park .acked).bus
          scan := (((d.endOperation st .park .acked).updStation st fun r => { r with parked := true }).syncProbe st).scan
          } := by
      rw [syncProbe_eq, updStation_endOperation]
    rw [← heq, StationRecord.flags_park] at hraised
    exact hraised.congr (by simp)
  | unpark => exact (endOperation_end d st .unpark .acked).congr (by simp)
  | reset => exact (endOperation_end d st .reset .acked).congr (by simp)

theorem operationAcked_probe (d : Device) (st : StationId) :
    (d.operationAcked st .park).scan.probe[st].isSome = (d.operationAcked st .park).stations[st].probeDue := by
  have heq : d.operationAcked st .park = (((d.endOperation st .park .acked).updStation st fun r =>
    { r with parked := true }).syncProbe st).raiseChange st { park := true } := rfl
  rw [heq, raiseChange_scan, raiseChange_probeDue, syncProbe_probe, syncProbe_stations]

theorem operationAcked_scan (d : Device) (st : StationId) {op : StationOp} (h : op ≠ .park) :
    (d.operationAcked st op).scan = d.scan := by
  have heq : d.operationAcked st op = d.endOperation st op .acked := by
    cases op with
    | park => exact absurd rfl h
    | unpark => rfl
    | reset => rfl
  rw [heq, endOperation_eq]

theorem endOperation_as_write (d : Device) (st : StationId) (op : StationOp) (o : OpOutcome) : d.endOperation st op o =
    { d with
      stations := put d.stations st { d.stations[st] with outcome := some (op, o) }
      bus := (d.endOperation st op o).bus, scan := d.scan } := by
  rw [endOperation_eq]

theorem operationNotTaken_end (d : Device) (st : StationId) (op : StationOp) :
    OperationEnd st d (d.operationNotTaken st op) { d.stations[st] with
      outcome := some (op, .notTaken), resetting := d.stations[st].resetting && decide (op ≠ .reset)
      flags := { d.stations[st].flags with
        park := d.stations[st].flags.park || decide (op ≠ .reset)
        reset := d.stations[st].flags.reset || decide (op = .reset) } } := by
  cases op with
  | park =>
    have hraised := operationEnd_raise d st (d.endOperation st .park .notTaken).bus d.scan
      { d.stations[st] with outcome := some (.park, .notTaken) } { park := true }
      (endOperation_source d st .park .notTaken) rfl
    rw [← endOperation_as_write, StationRecord.flags_park] at hraised
    exact hraised.congr (by simp)
  | unpark =>
    have hraised := operationEnd_raise d st (d.endOperation st .unpark .notTaken).bus d.scan
      { d.stations[st] with outcome := some (.unpark, .notTaken) } { park := true }
      (endOperation_source d st .unpark .notTaken) rfl
    rw [← endOperation_as_write, StationRecord.flags_park] at hraised
    exact hraised.congr (by simp)
  | reset =>
    have hraised := operationEnd_raise d st (d.endOperation st .reset .notTaken).bus d.scan
      { d.stations[st] with outcome := some (.reset, .notTaken), resetting := false } { reset := true }
      (endOperation_source d st .reset .notTaken) rfl
    have heq := updStation_endOperation d st .reset .notTaken fun r => { r with resetting := false }
    rw [← heq, StationRecord.flags_reset] at hraised
    exact hraised.congr (by simp)

theorem operationNotTaken_scan (d : Device) (st : StationId) (op : StationOp) :
    (d.operationNotTaken st op).scan = d.scan := by
  cases op with
  | park => exact (raiseChange_scan _ st _).trans (by rw [endOperation_eq])
  | unpark => exact (raiseChange_scan _ st _).trans (by rw [endOperation_eq])
  | reset => exact (raiseChange_scan _ st _).trans (by rw [updStation_endOperation])

end Sys2Proof.Machine

/-! ### Responses to the part, together (O45) -/

namespace Sys2Proof.Machine

theorem pollEnd_of_member (d : Device) (i : LineId) (followUp received : Bool) :
    d.pollEnd (.pollLine i true followUp) received = d.memberDone i received := rfl

theorem pollEnd_of_other {d : Device} {o : FrameOwner} (received : Bool)
    (h : ∀ (i : LineId) (f : Bool), o ≠ .pollLine i true f) : d.pollEnd o received = d := by
  unfold Device.pollEnd
  split
  next i f => exact absurd rfl (h i f)
  next => rfl

/-- Settles O45. -/
theorem responsesToThePart : Obligations.ResponsesToThePart := by
  unfold Obligations.ResponsesToThePart
  refine ⟨?first, ?valid, ?invalid, ?ack, ?nak, ?ackToPoll, ?badCrc, ?otherDest, fun _ => rfl, ?kind0, ?asked,
    ?status, ?noStatus, ?monitor, ?takes, ?tend, ?posted, ?confirmed, ?trigger, ?station, ?operation, ?noCommand, ?poll⟩
  case first =>
    intro s x st c order hengine hx hst hnone hlong
    have hcs : s.dev.bus.response.getD [] ++ [c] = c :: [] := by
      rw [hnone]
      rfl
    exact next_onDevice_congr (congrArg Device.settle ((responseFirst_of_none order hnone).trans
      (responseChars_of_short order (awaited_of_station hengine hx hst) hcs hlong)))
  case valid =>
    intro s x st c rest cs a order hengine hx hst hcs hlength ha
    exact next_onDevice_congr (congrArg Device.settle
      ((responseChars_of_complete order (awaited_of_station hengine hx hst) hcs hlength).trans
        (takeResponse_of_some order ha)))
  case invalid =>
    intro s x st c rest cs order hengine hx hst hcs hlength ha
    exact next_onDevice_congr (congrArg Device.settle
      ((responseChars_of_complete order (awaited_of_station hengine hx hst) hcs hlength).trans
        (takeResponse_of_none order ha)))
  case ack =>
    intro q n hlow hhigh hpoll c
    have hkind : answerKind c = 1 := answerKind_ofNat (k := 1) (by omega) (by omega)
    have hdest : c.toNat % 32 = q.dest := dest_ofNat (k := 1) (by omega)
    rw [readAnswer_of_kind1 n (accepts_of_two (responseLength_of_kind1 hkind) hdest) hkind, hpoll]
    exact if_neg Bool.false_ne_true
  case nak =>
    intro q n hlow hhigh c
    have hkind : answerKind c = 2 := answerKind_ofNat (k := 2) (by omega) (by omega)
    have hdest : c.toNat % 32 = q.dest := dest_ofNat (k := 2) (by omega)
    exact readAnswer_of_kind2 n (accepts_of_two (responseLength_of_kind2 hkind) hdest) hkind
  case ackToPoll =>
    intro q n hlow hhigh hpoll c
    have hkind : answerKind c = 1 := answerKind_ofNat (k := 1) (by omega) (by omega)
    have hdest : c.toNat % 32 = q.dest := dest_ofNat (k := 1) (by omega)
    rw [readAnswer_of_kind1 n (accepts_of_two (responseLength_of_kind1 hkind) hdest) hkind, hpoll]
    exact if_pos rfl
  case badCrc => exact fun q c k n h => readAnswer_of_bad_crc n h
  case otherDest => exact fun q c rest n h => readAnswer_of_other_dest n h
  case kind0 =>
    intro s x st c order hengine hx hst hnone hkind
    exact next_onDevice_congr (congrArg Device.settle
      (responseFirst_of_kind0 order (awaited_of_station hengine hx hst) hnone hkind))
  case asked =>
    intro f hdest
    rw [BusFrame.asked_eq, Nat.mod_eq_of_lt hdest]
    cases f.drum <;> cases f.kind <;> rfl
  case status =>
    intro q c0 c1 c2 c3 c4 c5 c6 c7 kind n h0 hdest hpoll hdrum hkind hk
    have hbits : kindOfBits q.kind = some kind := by
      rw [hk]
      cases kind <;> rfl
    exact (readAnswer_status q c0 c1 c2 c3 c4 c5 c6 c7 kind n rfl h0 hdest hpoll hdrum hkind hbits).trans
      (congrArg (fun rep => some (Answer.status rep)) (readReport_eq c0 c1 c2 c3 c4 c5 c6 c7 _ kind n))
  case noStatus => exact fun q c0 c1 rest n h0 h => readAnswer_no_status n h0 h
  case monitor =>
    intro d st a
    have hresult := monitorResponse_result d st a
    have hrecord := hresult.record
    rw [StationRecord.union_newsFlags] at hrecord
    obtain ⟨e, hstep, hdue, hlines, hbus, hscan, htend, hbridge, htrig, hhold⟩ := hresult.step
    have hnext := (congrArg Bus.nextAction hbus).trans hstep.nextAction
    have hsource := (congrArg Bus.stationSource hbus).trans hstep.source
    have hline (i : LineId) := (congrArg (·[i]) hlines).trans (hstep.lines i)
    have hprobe := hstep.probe
    rw [← hscan, ← hdue] at hprobe
    have hrest := And.intro hresult.quay (And.intro (htend.trans hstep.tend) (And.intro (hbridge.trans hstep.bridge)
      (And.intro (htrig.trans hstep.trig) (hhold.trans hstep.hold))))
    cases a with
    | ack =>
      exact ⟨hrecord, hresult.others, hline, hnext, hsource, hprobe, fun h => hscan.trans (hstep.scan h), hrest⟩
    | nak =>
      exact ⟨hrecord, hresult.others, hline, hnext, hsource, hprobe, fun h => hscan.trans (hstep.scan h), hrest⟩
    | status rep =>
      exact ⟨hrecord, hresult.others, hline, hnext, hsource, hprobe, fun h => hscan.trans (hstep.scan h), hrest⟩
  case takes => exact fun d x st => ⟨ownerTakes_of_detached st, ownerTakes_of_attached st⟩
  case tend => exact fun d i y h => ⟨tendEnd_ack h, fun a => tendEnd_of_not_ack h⟩
  case posted => exact fun d p ps h => ⟨postedEnd_ack h, fun a => postedEnd_of_not_ack h⟩
  case confirmed =>
    intro d k c h x l time
    exact ⟨confirmedEnd_ack h, fun a => confirmedEnd_of_not_ack h⟩
  case trigger =>
    intro d e i y h release mark
    exact ⟨triggerEnd_ack h, fun a => triggerEnd_of_not_ack h⟩
  case station =>
    intro d x xs h gone
    exact ⟨fun drum hframe => ⟨stationEnd_stop_ack h hframe, fun a => stationEnd_stop_of_not_ack h hframe⟩,
      fun op hframe => ⟨stationEnd_op_ack h hframe, fun a => stationEnd_op_of_not_ack h hframe⟩⟩
  case operation =>
    intro d st op r
    obtain hacked := operationAcked_end d st op
    obtain hnot := operationNotTaken_end d st op
    refine ⟨⟨hacked.record, hacked.source, ?_, operationAcked_scan d st, hacked.quay, hacked.lines, hacked.tend,
      hacked.bridge, hacked.trig⟩, hnot.record, hnot.source, hnot.quay, hnot.lines, hnot.tend, hnot.bridge, hnot.trig,
      operationNotTaken_scan d st op⟩
    intro hpark
    rw [hpark]
    exact operationAcked_probe d st
  case noCommand => exact fun d i st sweep followUp a => ⟨rfl, rfl⟩
  case poll =>
    intro d o received
    refine ⟨?_, pollEnd_of_other received⟩
    intro i f ho
    rw [ho, pollEnd_of_member]

end Sys2Proof.Machine

/-! ### Answers to the pendant, and the plain timers (O48, O50, O52, O53, O58) -/

namespace Sys2Proof.Machine

/-! #### An answer to the pendant (R119, R152) -/

theorem id16_number (st : StationId) : id16 (BitVec.ofNat 8 (number st)) = some st := by
  have hst : (BitVec.ofNat 8 (number st)).toNat = st.val + 1 := by
    rw [BitVec.toNat_ofNat, number]
    omega
  have hrange : 1 ≤ (BitVec.ofNat 8 (number st)).toNat ∧ (BitVec.ofNat 8 (number st)).toNat ≤ 16 := by
    rw [hst]
    omega
  rw [id16, dif_pos hrange]
  refine congrArg some (Fin.ext ?_)
  show (BitVec.ofNat 8 (number st)).toNat - 1 = st.val
  omega

section
variable {d : Device} {f cs : List Byte} {c : Byte} {rest : List Byte} (order : FreeOrder)

theorem answerChars_of_complete (hcs : cs = c :: rest) (hlength : cs.length = responseLength c) :
    d.answerChars f cs order = d.pendantAnswer f cs order := by
  subst hcs
  have hnot : ¬ rest.length + 1 < responseLength c := by
    rw [← hlength, List.length_cons]
    exact Nat.lt_irrefl _
  have htake : (c :: rest).take (responseLength c) = c :: rest := by rw [← hlength, List.take_length]
  simp only [Device.answerChars, if_neg hnot, htake]

theorem pendantAnswer_of_some {a : Answer} {st : StationId} (ha : readAnswer (askedOf f) cs d.freeCount = some a)
    (hst : (askedOf f).dest = number st) :
    d.pendantAnswer f cs order = d.passEnding order fun d => d.takeover st (f.getD 2 0) := by
  have hid := id16_number st
  rw [← hst] at hid
  simp only [Device.pendantAnswer, ha, hid]

theorem pendantAnswer_of_none (ha : readAnswer (askedOf f) cs d.freeCount = none) :
    d.pendantAnswer f cs order = d.setObserver .quiet := by
  simp only [Device.pendantAnswer, ha]

theorem pendantResponse_of_window {w : Timer} (h : d.bus.observer = .pendantWindow f w) :
    d.pendantResponse cs order = d.answerChars f cs order := by
  simp only [Device.pendantResponse, h]

theorem pendantResponse_of_response {got : List Byte} (h : d.bus.observer = .pendantResponse f got) :
    d.pendantResponse cs order = d.answerChars f (got ++ cs) order := by
  simp only [Device.pendantResponse, h]

end

/-- Settles O48. -/
theorem pendantAnswers : Obligations.PendantAnswers := by
  unfold Obligations.PendantAnswers
  refine ⟨?window, ?windowNone, ?response, ?responseNone⟩
  case window =>
    intro s f cs w c rest a st order hobs hcs hlength ha hst
    have htaken := (pendantResponse_of_window order hobs).trans
      ((answerChars_of_complete order hcs hlength).trans (pendantAnswer_of_some order ha hst))
    cases order with
    | endingFirst => exact next_onDevice_congr (congrArg Device.settle htaken)
    | choiceFirst => exact next_onDevice_congr (congrArg Device.settle htaken)
  case windowNone =>
    intro s f cs w c rest order hobs hcs hlength ha
    exact next_onDevice_congr (congrArg Device.settle ((pendantResponse_of_window order hobs).trans
      ((answerChars_of_complete order hcs hlength).trans (pendantAnswer_of_none order ha))))
  case response =>
    intro s f got cs c rest a st order hobs hcs hlength ha hst
    have htaken := (pendantResponse_of_response order hobs).trans
      ((answerChars_of_complete order hcs hlength).trans (pendantAnswer_of_some order ha hst))
    cases order with
    | endingFirst => exact next_onDevice_congr (congrArg Device.settle htaken)
    | choiceFirst => exact next_onDevice_congr (congrArg Device.settle htaken)
  case responseNone =>
    intro s f got cs c rest order hobs hcs hlength ha
    exact next_onDevice_congr (congrArg Device.settle ((pendantResponse_of_response order hobs).trans
      ((answerChars_of_complete order hcs hlength).trans (pendantAnswer_of_none order ha))))

/-! #### The return of a station (R154, R24) -/

/-- The record of a returned line; one that was QUAY keeps everything. -/
def LineRecord.returned (r : LineRecord) : LineRecord :=
  if r.owner = .localOwner then { r with owner := .quay, resync := true } else r

theorem returnLine_eq (d : Device) (i : LineId) : d.returnLine i = d.setLine i d.lines[i].returned := by
  unfold Device.returnLine LineRecord.returned
  split
  · rfl
  · rw [Device.setLine, put_self]

theorem returnLines_eq (l : List LineId) (d : Device) : l.foldl Device.returnLine d =
    { d with lines := l.foldl (fun v i => put v i v[i].returned) d.lines } := by
  induction l generalizing d with
  | nil => rfl
  | cons i l ih =>
    rw [List.foldl_cons, ih, returnLine_eq]
    rfl

theorem returnStation_eq (d : Device) (st : StationId) (cause : ReturnCause) : d.returnStation st cause =
    { d with
      lines := (d.linesOf st).foldl (fun v i => put v i v[i].returned) d.lines, hold := put d.hold st none
      quay := (d.queueEvent (.localReturned st cause (setOf (d.linesOf st)))).quay } := by
  unfold Device.returnStation
  dsimp only
  rw [returnLines_eq]
  have hquay := queueEvent_quay_congr (d := d) (d' := { d with
    lines := (d.linesOf st).foldl (fun v i => put v i v[i].returned) d.lines, hold := put d.hold st none }) rfl
    (.localReturned st cause (setOf (d.linesOf st)))
  exact congrArg (fun q => ({ d with
    lines := (d.linesOf st).foldl (fun v i => put v i v[i].returned) d.lines, hold := put d.hold st none
    quay := q } : Device)) hquay

theorem returnStation_lines (d : Device) (st : StationId) (cause : ReturnCause) (i : LineId) :
    (d.returnStation st cause).lines[i] =
      if d.lines[i].onStation st = true ∧ d.lines[i].owner = .localOwner
      then { d.lines[i] with owner := .quay, resync := true } else d.lines[i] := by
  rw [returnStation_eq]
  refine (foldl_put_get LineRecord.returned _ (linesOf_nodup d st) d.lines i).trans ?_
  rw [LineRecord.returned]
  by_cases hon : d.lines[i].onStation st = true
  case pos =>
    rw [if_pos (mem_linesOf.mpr hon)]
    exact if_congr (and_iff_right hon).symm rfl rfl
  case neg => rw [if_neg fun h => hon (mem_linesOf.mp h), if_neg fun h => hon h.1]

/-! #### The need of probes (R132) -/

theorem StationRecord.probeDue_iff (r : StationRecord) :
    r.probeDue = true ↔ r.power = .on ∧ r.enabled = true ∧ (r.presence = .absent ∨ r.parked = true) := by
  simp only [StationRecord.probeDue, Bool.and_eq_true, Bool.or_eq_true, decide_eq_true_eq, and_assoc]

theorem addProbe_eq (l : List PollEntry) (st : StationId) :
    addProbe l st = if .probe st ∈ l then l else l ++ [.probe st] := by
  have hany : l.any (PollEntry.isProbe st) = true ↔ .probe st ∈ l := by
    rw [List.any_eq_true]
    constructor
    · rintro ⟨p, hp, hprobe⟩
      cases p with
      | line i s f => exact absurd hprobe Bool.false_ne_true
      | probe st' =>
        rw [← of_decide_eq_true hprobe]
        exact hp
    · exact fun h => ⟨_, h, decide_eq_true rfl⟩
  exact if_congr hany rfl rfl

theorem holdExpires_of_running {d : Device} {st : StationId} {ms : Nat} (h : d.hold[st] = some ms) :
    d.holdExpires st = d.returnStation st .timeout := by
  rw [Device.holdExpires, h]
  exact if_pos rfl

theorem holdExpires_of_stopped {d : Device} {st : StationId} (h : d.hold[st] = none) : d.holdExpires st = d := by
  rw [Device.holdExpires, h]
  exact if_neg Bool.false_ne_true

theorem powerGoodExpires_of_running {d : Device} {st : StationId} {ms : Nat} (h : d.stations[st].powerGood = some ms) :
    d.powerGoodExpires st =
      (d.setStation st { d.stations[st] with power := .on, powerGood := none }).syncProbe st := by
  rw [Device.powerGoodExpires, h, Device.powerReady, updStation_eq]
  exact if_pos rfl

theorem powerGoodExpires_of_stopped {d : Device} {st : StationId} (h : d.stations[st].powerGood = none) :
    d.powerGoodExpires st = d := by
  rw [Device.powerGoodExpires, h]
  exact if_neg Bool.false_ne_true

/-- Settles O50. -/
theorem holdAndPowerGoodExpiries : Obligations.HoldAndPowerGoodExpiries := by
  unfold Obligations.HoldAndPowerGoodExpiries
  refine ⟨?hold, ?holdStopped, ?powerGood, ?powerGoodStopped, StationRecord.probeDue_iff, ?syncProbe⟩
  case hold =>
    intro s st ms h
    refine ⟨s.dev.returnStation st .timeout, next_onDevice_congr (congrArg Device.settle (holdExpires_of_running h)),
      returnStation_lines _ _ _, ?_⟩
    rw [returnStation_eq]
    exact ⟨rfl, rfl, rfl, rfl, rfl, rfl, rfl, rfl, rfl⟩
  case holdStopped =>
    intro s st h
    exact next_onDevice_congr (congrArg Device.settle (holdExpires_of_stopped h))
  case powerGood =>
    intro s st ms h
    exact next_onDevice_congr (congrArg Device.settle (powerGoodExpires_of_running h))
  case powerGoodStopped =>
    intro s st h
    exact next_onDevice_congr (congrArg Device.settle (powerGoodExpires_of_stopped h))
  case syncProbe =>
    intro d st
    refine ⟨fun hdue hnone => ?_, fun hdue hrunning => ?_, fun hnot => ?_⟩
    · rw [Device.syncProbe, if_pos hdue, hnone, ← addProbe_eq]
      exact if_neg Bool.false_ne_true
    · rw [Device.syncProbe, if_pos hdue, if_pos hrunning]
    · rw [Device.syncProbe, if_neg (Bool.eq_false_iff.mp hnot)]
      rfl

/-! #### The debouncer (R86) -/

/-- Settles O53. -/
theorem inputDebouncing : Obligations.InputDebouncing := by
  unfold Obligations.InputDebouncing
  refine ⟨?level, ?stable, ?stopped⟩
  case level =>
    intro s n l
    refine next_onDevice_congr (congrArg Device.settle ?_)
    unfold Device.inputLevel
    dsimp only
    generalize s.dev.trig.inputs[n] = x
    cases hrunning : x.stability with
    | none => rfl
    | some ms => rfl
  case stable =>
    intro s n ms h
    refine next_onDevice_congr (congrArg Device.settle ?_)
    rw [Device.stabilityExpires, h]
    exact if_pos rfl
  case stopped =>
    intro s n h
    refine next_onDevice_congr (congrArg Device.settle ?_)
    rw [Device.stabilityExpires, h]
    exact if_neg Bool.false_ne_true

/-! #### Telemetry (R172) -/

/-- Settles O58. -/
theorem telemetryDecimation : Obligations.TelemetryDecimation := by
  unfold Obligations.TelemetryDecimation
  intro d i rep r x
  have hoffer : d.offerSample i rep false =
      if r.config.divisor = 0 then d.setLine i { r with telemetryCount := 0 }
      else if r.config.divisor ≤ r.telemetryCount + 1 then (d.setLine i { r with telemetryCount := 0 }).placeSample x
      else d.setLine i { r with telemetryCount := r.telemetryCount + 1 } := by
    unfold Device.offerSample
    exact if_neg Bool.false_ne_true
  have hchanged : d.offerSample i rep true = (d.setLine i { r with telemetryCount := 0 }).placeSample x := by
    unfold Device.offerSample
    exact if_pos rfl
  refine ⟨hchanged, fun hzero => ?_, fun hpos hreached => ?_, fun hbelow => ?_, fun hsending => ?_⟩
  · rw [hoffer, if_pos hzero]
  · rw [hoffer, if_neg (Nat.pos_iff_ne_zero.mp hpos), if_pos hreached]
  · have hpos : r.config.divisor ≠ 0 := by omega
    rw [hoffer, if_neg hpos, if_neg (Nat.not_le.mpr hbelow)]
  · rw [Device.placeSample, QuayPort.startNext_of_sending]
    exact hsending

end Sys2Proof.Machine

/-! ### FAULT, tend entries, releases and reconcile (O52, O57, O60) -/

namespace Sys2Proof.Machine

/-! #### A line in FAULT (R10) -/

/-- R10: the record written, and the event of a line that did not hold FAULT with that cause. -/
theorem putFault_line (d : Device) (i : LineId) (c : FaultCause) :
    LineWritten d i { d.lines[i] with state := .fault, cause := some c }
      (if d.lines[i].state = .fault ∧ d.lines[i].cause = some c then d.quay
        else (d.queueEvent (.lineFault i c)).quay) (d.putFault i c) := by
  obtain ⟨hlines, hbridge, hquay⟩ := setState_written d i .fault
  have hwritten : ((d.setState i .fault).updLine i fun r => { r with cause := some c }).lines =
      put d.lines i { d.lines[i] with state := .fault, cause := some c } := by
    rw [updLine_lines, hlines, put_put, put_get_self]
  unfold Device.putFault
  dsimp only
  split
  · exact ⟨hwritten, hbridge, hquay⟩
  · exact ⟨hwritten, hbridge, queueEvent_quay_congr hquay _⟩

theorem LineWritten.line {d d' : Device} {i : LineId} {r : LineRecord} {q : QuayPort} (h : LineWritten d i r q d') :
    d'.lines[i] = r := by
  rw [h.lines, put_get_self]

theorem LineWritten.other {d d' : Device} {i j : LineId} {r : LineRecord} {q : QuayPort} (h : LineWritten d i r q d')
    (hj : j ≠ i) : d'.lines[j] = d.lines[j] := by
  rw [h.lines, put_get_ne _ _ hj]

/-- A write of the same line after another. -/
theorem LineWritten.trans {a b c : Device} {i : LineId} {r r' : LineRecord} {q q' : QuayPort}
    (h : LineWritten a i r q b) (k : LineWritten b i r' q' c) : LineWritten a i r' q' c where
  lines := by rw [k.lines, h.lines, put_put]
  bridge := k.bridge.trans h.bridge
  quay := k.quay

theorem updLine_written (d : Device) (i : LineId) (f : LineRecord → LineRecord) :
    LineWritten d i (f d.lines[i]) d.quay (d.updLine i f) := ⟨rfl, rfl, rfl⟩

/-! #### The removal of a tend entry (R48, R57) -/

theorem removeTend_tend (d : Device) (i : LineId) :
    (d.removeTend i).tend = d.tend.filter fun t => decide (t.line ≠ i) := by
  unfold Device.removeTend
  dsimp only
  split
  · rw [detach_eq]
  · rfl

theorem removeTend_of_unsent {d : Device} {i : LineId} (h : ∀ t ∈ d.tend, t.line = i → t.sent = false) :
    d.removeTend i = { d with tend := d.tend.filter fun t => decide (t.line ≠ i) } := by
  refine if_neg ?_
  rw [List.any_eq_true]
  rintro ⟨t, ht, hsent⟩
  obtain ⟨hline, hsent⟩ := Bool.and_eq_true_iff.mp hsent
  exact Bool.false_ne_true ((h t ht (of_decide_eq_true hline)).symm.trans hsent)

theorem removeTend_bus_of_sent {d : Device} {i : LineId} {x : Exchange} (hx : d.bus.exchange = some x)
    (howner : x.owner = .tend i) (hsent : ∃ t ∈ d.tend, t.line = i ∧ t.sent = true) :
    (d.removeTend i).bus = { d.bus with exchange := some { x with detached := true } } := by
  obtain ⟨t, ht, hline, hsent⟩ := hsent
  have hany : (d.tend.any fun t => decide (t.line = i) && t.sent) = true :=
    List.any_eq_true.mpr ⟨t, ht, Bool.and_eq_true_iff.mpr ⟨decide_eq_true hline, hsent⟩⟩
  have hremove : d.removeTend i =
      ({ d with tend := d.tend.filter fun t => decide (t.line ≠ i) } : Device).detach (.tend i) := if_pos hany
  rw [hremove]
  exact detach_bus_of_owner (d := { d with tend := _ }) hx howner

theorem setState_tend_of_leaving {d : Device} {i : LineId} {x : LineState} (h : d.lines[i].state = .tending)
    (hx : x ≠ .tending) : (d.setState i x).tend = d.tend.filter fun t => decide (t.line ≠ i) := by
  rw [setState_of_leaving h hx]
  exact removeTend_tend _ i

theorem setState_tend_of_not_leaving {d : Device} {i : LineId} {x : LineState}
    (h : d.lines[i].state ≠ .tending ∨ x = .tending) : (d.setState i x).tend = d.tend := by
  rw [setState_of_not_leaving h]
  rfl

theorem setState_stations (d : Device) (i : LineId) (x : LineState) : (d.setState i x).stations = d.stations := by
  unfold Device.setState
  dsimp only
  split
  · rw [removeTend_eq]
    rfl
  · rfl

/-- Beside its line and its event, a fault is the state's move. -/
theorem putFault_tend (d : Device) (i : LineId) (c : FaultCause) : (d.putFault i c).tend = (d.setState i .fault).tend := by
  unfold Device.putFault
  dsimp only
  split <;> rfl

theorem putFault_stations (d : Device) (i : LineId) (c : FaultCause) : (d.putFault i c).stations = d.stations := by
  refine Eq.trans ?_ (setState_stations d i .fault)
  unfold Device.putFault
  dsimp only
  split <;> rfl

/-! #### The tend decision, the limit and the recheck (R49 to R54) -/

theorem unsent_test (i : LineId) (t : TendEntry) :
    (!(decide (t.line = i) && !t.sent)) = decide (¬(t.line = i ∧ t.sent = false)) := by
  cases t.sent <;> simp

theorem dropUnsent_eq (l : List TendEntry) (i : LineId) :
    dropUnsent l i = l.filter fun y => decide (¬(y.line = i ∧ y.sent = false)) := by
  simp only [dropUnsent, unsent_test]

theorem unsentEntry_eq (d : Device) (i : LineId) :
    d.unsentEntry i = d.tend.find? fun y => decide (y.line = i ∧ y.sent = false) := by
  have htest (t : TendEntry) : (decide (t.line = i) && !t.sent) = decide (t.line = i ∧ t.sent = false) := by
    cases t.sent <;> simp
  simp only [Device.unsentEntry, htest]

theorem LineRecord.limitOf_eq (r : LineRecord) (dir : TendDirection) :
    r.limitOf dir = if dir = .payout then r.config.maxLength else r.config.minLength := by
  cases dir with
  | payout => exact (if_pos rfl).symm
  | heave => exact (if_neg TendDirection.noConfusion).symm

theorem refuseStep_of_open {d : Device} {i : LineId} {n : Nat} (dir : TendDirection) (step : Nat)
    (hopen : d.lines[i].lengthLimit = false) (hn : d.lines[i].length = some n) : d.refuseStep i dir step =
      (d.queueEvent (.lengthLimit i dir n (if dir = .payout then d.lines[i].config.maxLength
        else d.lines[i].config.minLength) step)).setLine i { d.lines[i] with lengthLimit := true } := by
  unfold Device.refuseStep
  dsimp only
  rw [hopen, if_neg Bool.false_ne_true, hn, LineRecord.limitOf_eq, Option.getD_some, updLine_eq, queueEvent_lines, ← hn]

theorem recheckTend_of_none {d : Device} {i : LineId} (h : d.unsentEntry i = none) : d.recheckTend i = d := by
  simp only [Device.recheckTend, h]

theorem recheckTend_of_some {d : Device} {i : LineId} {y : TendEntry} (h : d.unsentEntry i = some y) :
    d.recheckTend i = if d.lines[i].stepPasses y.direction y.step then d
      else ({ d with tend := dropUnsent d.tend i } : Device).refuseStep i y.direction y.step := by
  simp only [Device.recheckTend, h]

/-- The direction of the band's decision (R49). -/
theorem direction_of_payout {b : Band} (h : b = .high ∨ b = .alarm) : b.direction = some .payout := by
  obtain rfl | rfl := h <;> rfl

theorem direction_of_heave {b : Band} (h : b = .slack ∨ b = .low) : b.direction = some .heave := by
  obtain rfl | rfl := h <;> rfl

theorem direction_of_none {b : Band} (h : b = .working ∨ b = .critical) : b.direction = none := by
  obtain rfl | rfl := h <;> rfl

theorem tendDecision_of_none {d : Device} {i : LineId} (h : d.lines[i].band.direction = none) :
    d.tendDecision i = { d with tend := dropUnsent d.tend i } := by
  simp only [Device.tendDecision, h]

theorem tendDecision_of_some {d : Device} {i : LineId} {dir : TendDirection}
    (h : d.lines[i].band.direction = some dir) : d.tendDecision i =
      if d.lines[i].stepPasses dir d.lines[i].config.tendStep then
        { d with tend := stepPassed d.tend i dir d.lines[i].config.tendStep }
      else { d.refuseStep i dir d.lines[i].config.tendStep with
        tend := dropUnsent (d.refuseStep i dir d.lines[i].config.tendStep).tend i } := by
  simp only [Device.tendDecision, h]

theorem refuseStep_tend (d : Device) (i : LineId) (dir : TendDirection) (step : Nat) :
    (d.refuseStep i dir step).tend = d.tend := by
  unfold Device.refuseStep
  dsimp only
  split <;> rfl

theorem stepPassed_of_absent {l : List TendEntry} {i : LineId} (dir : TendDirection) (step : Nat)
    (h : ∀ y ∈ l, y.line ≠ i) : stepPassed l i dir step = l ++ [{ line := i, direction := dir, step := step }] := by
  refine if_neg ?_
  rw [List.any_eq_true]
  rintro ⟨y, hy, hline⟩
  exact h y hy (of_decide_eq_true hline)

theorem stepPassed_of_present {l : List TendEntry} {i : LineId} (dir : TendDirection) (step : Nat)
    (h : ∃ y ∈ l, y.line = i) : stepPassed l i dir step = l.map fun y =>
      if y.line = i ∧ y.sent = false then
        { y with direction := dir, step := step, attempts := if y.direction = dir then y.attempts else 0 }
      else y := by
  obtain ⟨y, hy, hline⟩ := h
  refine (if_pos (List.any_eq_true.mpr ⟨y, hy, decide_eq_true hline⟩)).trans (List.map_congr_left fun t _ => ?_)
  refine if_congr (and_congr_right fun _ => iff_of_eq (Bool.not_eq_true _)) ?_ rfl
  split
  next hdir => rw [← hdir]
  next => rfl

/-- Settles O60. -/
theorem entryIntoFaultAndTendEntryRemoval : Obligations.EntryIntoFaultAndTendEntryRemoval := by
  unfold Obligations.EntryIntoFaultAndTendEntryRemoval
  refine ⟨?fault, ?removal, ?decision, ?passes, ?refuse, ?recheck⟩
  case fault =>
    intro d i c t
    have hwritten := putFault_line d i c
    refine ⟨hwritten.line, fun j => hwritten.other, fun hstate hcause => ?_, fun hnot => ?_, rfl, fun htending => ?_,
      fun hnot => ?_, putFault_stations d i c, hwritten.bridge⟩
    · exact hwritten.quay.trans (if_pos ⟨hstate, hcause⟩)
    · exact hwritten.quay.trans (if_neg hnot)
    · intro x hx
      rw [putFault_tend, setState_tend_of_leaving htending LineState.noConfusion, List.mem_filter] at hx
      exact of_decide_eq_true hx.2
    · exact (putFault_tend d i c).trans (setState_tend_of_not_leaving (.inl hnot))
  case removal =>
    intro d i
    refine ⟨removeTend_tend d i, removeTend_of_unsent, fun x => removeTend_bus_of_sent, ?_⟩
    rw [removeTend_eq]
    exact ⟨rfl, rfl, rfl⟩
  case decision =>
    intro d i r dropped
    have hdropped : dropUnsent d.tend i = dropped := dropUnsent_eq d.tend i
    refine ⟨fun hband => ?_, fun dir hband => ?_⟩
    · rw [tendDecision_of_none (direction_of_none hband), hdropped]
    · have hdir : d.lines[i].band.direction = some dir := by
        obtain ⟨rfl, h⟩ | ⟨rfl, h⟩ := hband
        · exact direction_of_payout h
        · exact direction_of_heave h
      have hdecision := tendDecision_of_some hdir
      refine ⟨fun hfails => ?_, fun hpasses habsent => ?_, fun hpasses hpresent => ?_⟩
      · rw [hdecision, if_neg (Bool.eq_false_iff.mp hfails), refuseStep_tend, hdropped]
      · rw [hdecision, if_pos hpasses, stepPassed_of_absent dir _ habsent]
      · rw [hdecision, if_pos hpasses, stepPassed_of_present dir _ hpresent]
  case passes =>
    intro r n step hn
    unfold LineRecord.stepPasses
    rw [hn]
    exact ⟨decide_eq_true_iff, decide_eq_true_iff⟩
  case refuse =>
    intro d i dir step n r
    exact ⟨fun h => if_pos h, refuseStep_of_open dir step⟩
  case recheck =>
    intro d i
    refine ⟨fun hsent => ?_, fun y hy => ?_⟩
    · refine recheckTend_of_none ?_
      rw [unsentEntry_eq, List.find?_eq_none]
      intro y hy hunsent
      obtain ⟨hline, hunsent⟩ := of_decide_eq_true hunsent
      exact Bool.false_ne_true (hunsent.symm.trans (hsent y hy hline))
    · rw [← unsentEntry_eq] at hy
      have hrecheck := recheckTend_of_some hy
      refine ⟨fun hpasses => ?_, fun hfails => ?_⟩
      · rw [hrecheck, if_pos hpasses]
      · rw [hrecheck, if_neg (Bool.eq_false_iff.mp hfails), dropUnsent_eq]

end Sys2Proof.Machine

/-! ### The end of a release, reconcile, and slot timers (O52, O57) -/

namespace Sys2Proof.Machine

/-! #### The end of a trigger-driven release (R23, R100) -/

/-- The line's record after its trigger-driven release has ended. -/
def LineRecord.afterRelease (r : LineRecord) (done : Bool) : LineRecord :=
  if r.state = .releasing then
    if done then { r with state := .released } else { r with state := .fault, cause := some .commandFailed }
  else r.marked

/-- The Quay Port after the end of a line's release. -/
def Device.quayAfterRelease (d : Device) (i : LineId) (done : Bool) : QuayPort :=
  if d.lines[i].state = .releasing ∧ done = false then (d.queueEvent (.lineFault i .commandFailed)).quay else d.quay

theorem clearInFlight_written (d : Device) (i : LineId) :
    LineWritten d i { d.lines[i] with triggerInFlight := none } d.quay (d.clearInFlight i) := ⟨rfl, rfl, rfl⟩

theorem clearInFlight_releaseTimers (d : Device) (i : LineId) :
    (d.clearInFlight i).trig.releaseTimers = put d.trig.releaseTimers i none := rfl

theorem endRelease_of_none {d : Device} {i : LineId} (done : Bool) (h : d.lines[i].triggerInFlight = none) :
    d.endRelease i done = d := by
  unfold Device.endRelease
  rw [h]
  exact if_neg Bool.false_ne_true

theorem endRelease_of_some {d : Device} {i : LineId} {p : EntryId × ActionNo} (done : Bool)
    (h : d.lines[i].triggerInFlight = some p) :
    LineWritten d i { d.lines[i].afterRelease done with triggerInFlight := none } (d.quayAfterRelease i done)
        (d.endRelease i done) ∧
      (d.endRelease i done).trig.releaseTimers[i] = none := by
  unfold Device.endRelease LineRecord.afterRelease Device.quayAfterRelease
  rw [h, Option.isSome_some, if_pos rfl]
  have hclear {d' : Device} {r : LineRecord} {q : QuayPort} (hwritten : LineWritten d i r q d') :
      LineWritten d i { r with triggerInFlight := none } q (d'.clearInFlight i) := by
    have hboth := hwritten.trans (clearInFlight_written d' i)
    rw [hwritten.line, hwritten.quay] at hboth
    exact hboth
  refine ⟨?_, ?_⟩
  · by_cases hstate : d.lines[i].state = .releasing
    case pos =>
      have hfault : ¬(d.lines[i].state = .fault ∧ d.lines[i].cause = some .commandFailed) := fun hf =>
        LineState.noConfusion (hf.1.symm.trans hstate)
      have hwritten := putFault_line d i .commandFailed
      rw [if_neg hfault] at hwritten
      cases done with
      | true =>
        simp only [hstate, if_true, true_and, Bool.true_eq_false, if_false]
        exact hclear (setState_written d i .released)
      | false =>
        simp only [hstate, if_true, true_and, Bool.false_eq_true, if_false]
        exact hclear hwritten
    case neg =>
      simp only [hstate, if_false, false_and]
      exact hclear (resyncUnlessFault_written d i)
  · rw [clearInFlight_releaseTimers, put_get_self]

theorem LineRecord.marked_eq (r : LineRecord) :
    r.marked = { r with resync := r.resync || decide (r.state ≠ .fault) } := by
  unfold LineRecord.marked
  by_cases h : r.state = .fault
  case pos => rw [if_pos h, decide_eq_false (not_not.mpr h), Bool.or_false]
  case neg => rw [if_neg h, decide_eq_true h, Bool.or_true]

theorem quayAfterRelease_congr {d d' : Device} (i : LineId) (done : Bool) (hlines : d'.lines = d.lines)
    (hquay : d'.quay = d.quay) : d'.quayAfterRelease i done = d.quayAfterRelease i done := by
  unfold Device.quayAfterRelease
  rw [hlines, hquay, queueEvent_quay_congr hquay]

/-! #### The slot and release timers (R74, R76, R100) -/

/-- Settles O52. -/
theorem slotAndReleaseTimerExpiries : Obligations.SlotAndReleaseTimerExpiries := by
  unfold Obligations.SlotAndReleaseTimerExpiries
  refine ⟨?action, ?actionOther, ?discard, ?discardStopped, ?release, ?releaseStopped⟩
  case action =>
    intro s k ms hstate htimer
    refine next_onDevice_congr (congrArg Device.settle ?_)
    rw [Device.actionExpires, htimer]
    exact if_pos ⟨hstate, rfl⟩
  case actionOther =>
    intro s k hstate
    refine next_onDevice_congr (congrArg Device.settle ?_)
    exact if_neg fun h => hstate h.1
  case discard =>
    intro s k c res ms htimer hc hres
    refine next_onDevice_congr (congrArg Device.settle ?_)
    simp only [Device.discardExpires, htimer, hc, hres]
  case discardStopped =>
    intro s k htimer
    refine next_onDevice_congr (congrArg Device.settle ?_)
    simp only [Device.discardExpires, htimer]
  case release =>
    intro s i ms p htimer hflight
    obtain ⟨d, hd⟩ : ∃ d : Device, d = { s.dev with trig := { s.dev.trig with
      releaseTimers := put s.dev.trig.releaseTimers i none } } := ⟨_, rfl⟩
    have hlines : d.lines = s.dev.lines := by rw [hd]
    have hquay : d.quay = s.dev.quay := by rw [hd]
    have hexpires : s.dev.releaseExpires i = d.endRelease i false := by
      rw [Device.releaseExpires, htimer, hd]
      exact if_pos rfl
    have hsome : d.lines[i].triggerInFlight = some p := by rw [hlines, hflight]
    obtain ⟨hwritten, htimers⟩ := endRelease_of_some false hsome
    have hline := hwritten.line
    have hqueue := hwritten.quay
    rw [quayAfterRelease_congr i false hlines hquay] at hqueue
    rw [hlines] at hline
    refine ⟨d.endRelease i false, next_onDevice_congr (congrArg Device.settle hexpires), ?_, htimers, fun hstate => ?_,
      fun hstate => ?_, fun j hj => ?_⟩
    · rw [hline]
    · rw [hline, LineRecord.afterRelease, if_pos hstate, hqueue]
      exact ⟨rfl, rfl, rfl, if_pos ⟨hstate, rfl⟩⟩
    · rw [hline, LineRecord.afterRelease, if_neg hstate, LineRecord.marked_eq, hqueue]
      exact ⟨rfl, rfl, if_neg fun h => hstate h.1, rfl⟩
    · rw [hwritten.other hj, hlines]
  case releaseStopped =>
    intro s i htimer
    refine next_onDevice_congr (congrArg Device.settle ?_)
    rw [Device.releaseExpires, htimer]
    exact if_neg Bool.false_ne_true

/-! #### Reconcile (R18) -/

theorem reconcile_of_not_due {d : Device} {i : LineId} (rep : Report)
    (h : ¬(d.lines[i].resync = true ∨ d.lines[i].owner = .localOwner)) : d.reconcile i rep = d := if_neg h

theorem reconcile_of_moving {d : Device} {i : LineId} {rep : Report} (h : rep.latch = .moving) :
    d.reconcile i rep = d := by
  unfold Device.reconcile LineRecord.reconciled
  rw [h]
  dsimp only
  split
  · exact if_neg Latch.noConfusion
  · rfl

theorem reconcile_of_state {d : Device} {i : LineId} {rep : Report} {x : LineState}
    (h : d.lines[i].resync = true ∨ d.lines[i].owner = .localOwner) (hx : d.lines[i].reconciled rep = some x) :
    LineWritten d i { d.lines[i] with state := x, cause := none, resync := false } d.quay (d.reconcile i rep) := by
  have hreconcile : d.reconcile i rep =
      (d.setState i x).updLine i fun r => { r with cause := none, resync := false } := by
    unfold Device.reconcile
    dsimp only
    rw [if_pos h, hx]
  have hstate := setState_written d i x
  have hboth := hstate.trans (updLine_written _ i fun r => { r with cause := none, resync := false })
  rw [hstate.line, hstate.quay, ← hreconcile] at hboth
  exact hboth

theorem reconcile_of_jammed {d : Device} {i : LineId} {rep : Report}
    (h : d.lines[i].resync = true ∨ d.lines[i].owner = .localOwner) (hlatch : rep.latch = .jammed) :
    LineWritten d i { d.lines[i] with state := .fault, cause := some .latchJammed, resync := false }
      (if d.lines[i].state = .fault ∧ d.lines[i].cause = some .latchJammed then d.quay
        else (d.queueEvent (.lineFault i .latchJammed)).quay) (d.reconcile i rep) := by
  have hreconcile : d.reconcile i rep = (d.updLine i fun r => { r with resync := false }).putFault i .latchJammed := by
    unfold Device.reconcile LineRecord.reconciled
    rw [hlatch]
    exact if_pos h
  have hclear := updLine_written d i fun r => { r with resync := false }
  have hboth := hclear.trans (putFault_line _ i .latchJammed)
  rw [hclear.line, hclear.quay, queueEvent_quay_congr hclear.quay, ← hreconcile] at hboth
  exact hboth

theorem reconcile_stations (d : Device) (i : LineId) (rep : Report) : (d.reconcile i rep).stations = d.stations := by
  unfold Device.reconcile
  dsimp only
  split
  · split
    · exact setState_stations d i _
    · split
      · exact putFault_stations _ i _
      · rfl
  · rfl

/-- In every case, no other line and no slot. -/
theorem reconcile_written (d : Device) (i : LineId) (rep : Report) : ∃ (r : LineRecord) (q : QuayPort),
    LineWritten d i r q (d.reconcile i rep) := by
  by_cases hdue : d.lines[i].resync = true ∨ d.lines[i].owner = .localOwner
  case neg =>
    rw [reconcile_of_not_due rep hdue]
    exact ⟨_, _, LineWritten.refl d i⟩
  case pos =>
    cases hlatch : rep.latch with
    | open_ => exact ⟨_, _, reconcile_of_state hdue (by rw [LineRecord.reconciled, hlatch])⟩
    | closed => exact ⟨_, _, reconcile_of_state hdue (by rw [LineRecord.reconciled, hlatch])⟩
    | moving =>
      rw [reconcile_of_moving hlatch]
      exact ⟨_, _, LineWritten.refl d i⟩
    | jammed => exact ⟨_, _, reconcile_of_jammed hdue hlatch⟩

end Sys2Proof.Machine

/-! ### A STATUS at the Line Table (O57) -/

namespace Sys2Proof.Machine

/-! #### The line that a STATUS is applied to (R11) -/

theorem lineAt_some {d : Device} {st : StationId} {drum : Drum} {i : LineId} (h : d.lineAt st drum = some i) :
    ∃ b : Binding, d.lines[i].binding = some b ∧ b.station = st ∧ b.drum = drum := by
  have hholds := List.find?_some h
  cases hb : d.lines[i].binding with
  | none =>
    rw [hb] at hholds
    exact absurd hholds Bool.false_ne_true
  | some b =>
    rw [hb] at hholds
    obtain ⟨hst, hdrum⟩ := of_decide_eq_true hholds
    exact ⟨b, rfl, hst, hdrum⟩

theorem lineAt_none {d : Device} {st : StationId} {drum : Drum} (h : d.lineAt st drum = none) (i : LineId) (b : Binding)
    (hb : d.lines[i].binding = some b) : ¬(b.station = st ∧ b.drum = drum) := by
  intro hholds
  have hnot := List.find?_eq_none.mp h i (mem_all16 i)
  rw [hb] at hnot
  exact hnot (decide_eq_true hholds)

/-! #### The steps of a report -/

theorem refuseStep_state (d : Device) (i : LineId) (dir : TendDirection) (step : Nat) :
    (d.refuseStep i dir step).lines[i].state = d.lines[i].state := by
  unfold Device.refuseStep
  dsimp only
  split
  · rfl
  · exact (congrArg LineRecord.state (put_get_self d.lines i _)).trans rfl

theorem recheckTend_state (d : Device) (i : LineId) : (d.recheckTend i).lines[i].state = d.lines[i].state := by
  cases hentry : d.unsentEntry i with
  | none => rw [recheckTend_of_none hentry]
  | some y =>
    rw [recheckTend_of_some hentry]
    split
    · rfl
    · exact refuseStep_state _ i _ _

/-- The state that the checks of R19 read is the state before the report. -/
theorem recheckTend_store_state (d : Device) (i : LineId) (rep : Report) :
    ((d.updLine i fun r => r.store rep).recheckTend i).lines[i].state = d.lines[i].state := by
  rw [recheckTend_state]
  exact (congrArg LineRecord.state (put_get_self d.lines i (d.lines[i].store rep))).trans rfl

theorem jamSlot_eq (d : Device) (i : LineId) (latch : Latch) : d.jamSlot i latch =
    if decide (latch = .jammed) &&
        (decide (d.lines[i].state = .releasing) || decide (d.lines[i].state = .locking)) then
      d.endLiveSlot i .failed
    else d := by
  refine if_congr ?_ rfl rfl
  simp only [Bool.and_eq_true, Bool.or_eq_true, decide_eq_true_eq]
  exact and_congr_right fun _ => Or.comm

theorem jamTrigger_eq (d : Device) (i : LineId) (latch : Latch) (wasReleasing : Bool) :
    d.jamTrigger i latch wasReleasing =
      if decide (latch = .jammed) && wasReleasing then d.endRelease i false else d := by
  refine if_congr ?_ rfl rfl
  rw [Bool.and_eq_true, decide_eq_true_eq]

theorem lineReport_eq (d : Device) (i : LineId) (rep : Report) : d.lineReport i rep =
    (let d₂ := (d.setLine i { d.lines[i] with
        length := some rep.length, latch := some rep.latch, brake := some rep.brake, motion := some rep.motion
        lastAction := some (rep.action, rep.status) }).recheckTend i
     let jam := decide (rep.latch = .jammed)
     let releasing := decide (d.lines[i].state = .releasing)
     let d₃ := if jam && (releasing || decide (d.lines[i].state = .locking)) then d₂.endLiveSlot i .failed else d₂
     let d₄ := d₃.matchSlot i rep
     let d₅ := d₄.matchTrigger i rep
     let d₆ := if jam && releasing then d₅.endRelease i false else d₅
     (d₆.reconcile i rep).takeSample i rep) := by
  unfold Device.lineReport
  dsimp only
  rw [jamTrigger_eq, jamSlot_eq, recheckTend_store_state]
  rfl

/-! #### The compares of R73 and R23 -/

/-- Whether a STATUS names the AWAITING slot's action (R73). -/
def Device.slotHit (d : Device) (i : LineId) (rep : Report) (k : SlotId) : Prop :=
  d.liveSlot i = some k ∧ d.bridge.slots[k].state = .awaiting ∧ d.bridge.slots[k].action = some rep.action

theorem matchSlot_of_hit {d : Device} {i : LineId} {rep : Report} {k : SlotId} (h : d.slotHit i rep k) :
    (rep.status = .done → d.matchSlot i rep = d.endSlot k .done) ∧
      (rep.status = .failed → d.matchSlot i rep = d.endSlot k .failed) := by
  obtain ⟨hlive, hstate, haction⟩ := h
  constructor <;> intro hstatus <;>
    simp only [Device.matchSlot, hlive, hstate, haction, hstatus, and_self, if_true]

theorem matchSlot_of_no_hit {d : Device} {i : LineId} {rep : Report} (h : ∀ k, ¬ d.slotHit i rep k) :
    d.matchSlot i rep = d := by
  unfold Device.matchSlot
  split
  · rfl
  next k hlive => exact if_neg fun hboth => h k ⟨hlive, hboth⟩

theorem matchSlot_of_running {d : Device} {i : LineId} {rep : Report} (h : rep.status = .busy ∨ rep.status = .idle) :
    d.matchSlot i rep = d := by
  unfold Device.matchSlot
  split
  · rfl
  · dsimp only
    split
    · obtain h | h := h <;> rw [h]
    · rfl

theorem matchTrigger_of_hit {d : Device} {i : LineId} {rep : Report} {e : EntryId}
    (h : d.lines[i].triggerInFlight = some (e, rep.action)) :
    (rep.status = .done → d.matchTrigger i rep = d.endRelease i true) ∧
      (rep.status = .failed → d.matchTrigger i rep = d.endRelease i false) := by
  constructor <;> intro hstatus <;> simp only [Device.matchTrigger, h, hstatus, if_true]

theorem matchTrigger_of_no_hit {d : Device} {i : LineId} {rep : Report}
    (h : ¬ ∃ e : EntryId, d.lines[i].triggerInFlight = some (e, rep.action)) : d.matchTrigger i rep = d := by
  unfold Device.matchTrigger
  split
  · rfl
  next p hp => exact if_neg fun haction => h ⟨p.1, hp.trans (congrArg some (Prod.ext rfl haction))⟩

theorem matchTrigger_of_running {d : Device} {i : LineId} {rep : Report}
    (h : rep.status = .busy ∨ rep.status = .idle) : d.matchTrigger i rep = d := by
  unfold Device.matchTrigger
  split
  · rfl
  · split
    · obtain h | h := h <;> rw [h]
    · rfl

/-- Settles O57. -/
theorem reconcileFromAReport : Obligations.ReconcileFromAReport := by
  unfold Obligations.ReconcileFromAReport
  refine ⟨?reconcile, ?report, fun d st drum i => lineAt_some, fun d st drum => lineAt_none, ?slot, ?trigger, ?release⟩
  case reconcile =>
    intro d i rep r r' due
    obtain ⟨_, _, hwritten⟩ := reconcile_written d i rep
    refine ⟨reconcile_of_not_due rep, fun _ => reconcile_of_moving, fun hdue hlatch => ?_, fun hdue hlatch hlength => ?_,
      fun hdue hlatch hlength => ?_, fun hdue hlatch => ?_, fun j => hwritten.other, hwritten.bridge,
      reconcile_stations d i rep⟩
    · exact (reconcile_of_state hdue (by rw [LineRecord.reconciled, hlatch])).line
    · exact (reconcile_of_state hdue (by rw [LineRecord.reconciled, hlatch]; exact congrArg some (if_pos hlength))).line
    · have hnot : ¬ rep.length ≤ d.lines[i].config.stow + 50 := Nat.not_le.mpr hlength
      exact (reconcile_of_state hdue (by rw [LineRecord.reconciled, hlatch]; exact congrArg some (if_neg hnot))).line
    · have hjammed := reconcile_of_jammed hdue hlatch
      exact ⟨hjammed.line, hjammed.quay⟩
  case report =>
    intro d st rep
    refine ⟨fun hnone => ?_, fun i hi => ?_⟩
    · simp only [Device.stationReport, hnone]
    · have hreport : d.stationReport st rep = d.lineReport i rep := by simp only [Device.stationReport, hi]
      exact hreport.trans (lineReport_eq d i rep)
  case slot =>
    intro d i rep hit
    refine ⟨fun k hk => (matchSlot_of_hit hk).1, fun k hk => (matchSlot_of_hit hk).2, fun hnone => ?_⟩
    obtain hnone | hrunning := hnone
    · exact matchSlot_of_no_hit hnone
    · exact matchSlot_of_running hrunning
  case trigger =>
    intro d i rep hit
    refine ⟨fun ⟨e, he⟩ => (matchTrigger_of_hit he).1, fun ⟨e, he⟩ => (matchTrigger_of_hit he).2, fun hnone => ?_⟩
    obtain hnone | hrunning := hnone
    · exact matchTrigger_of_no_hit hnone
    · exact matchTrigger_of_running hrunning
  case release =>
    intro d i success t
    refine ⟨endRelease_of_none success, fun p hp => ?_⟩
    obtain ⟨hwritten, htimers⟩ := endRelease_of_some success hp
    have hline := hwritten.line
    have hqueue := hwritten.quay
    refine ⟨htimers, fun j => hwritten.other, fun hstate hsuccess => ?_, fun hstate hsuccess => ?_, fun hstate => ?_⟩
    · subst hsuccess
      rw [LineRecord.afterRelease, if_pos hstate] at hline
      exact ⟨hline, hqueue.trans (if_neg fun h => Bool.true_eq_false.mp h.2)⟩
    · subst hsuccess
      rw [LineRecord.afterRelease, if_pos hstate] at hline
      exact ⟨hline, hqueue.trans (if_pos ⟨hstate, rfl⟩)⟩
    · rw [LineRecord.afterRelease, if_neg hstate, LineRecord.marked_eq] at hline
      exact ⟨hline, hqueue.trans (if_neg fun h => hstate h.1)⟩

end Sys2Proof.Machine

/-! ### Scan timers, sweeps and their members (O51) -/

namespace Sys2Proof.Machine

/-! #### The timers' expiries (R128, R132, R133, R134) -/

section
variable {d : Device}

theorem probeExpires_of_due {st : StationId} {ms : Nat} (h : d.scan.probe[st] = some ms)
    (hdue : d.stations[st].probeDue = true) : d.probeExpires st = { d with scan := { d.scan with
      pollList := addProbe d.scan.pollList st, probe := put d.scan.probe st (some 1000) } } := by
  rw [Device.probeExpires, h, if_pos hdue]
  exact if_neg Bool.false_ne_true

theorem followUpExpires_of_due {i : LineId} {ms : Nat} (h : d.scan.followUp[i] = some ms)
    (hdue : d.followUpDue i = true) : d.followUpExpires i = { d with scan := { d.scan with
      pollList := addLine d.scan.pollList i false true, followUp := put d.scan.followUp i (some 100) } } := by
  rw [Device.followUpExpires, h, if_pos hdue]
  exact if_neg Bool.false_ne_true

/-- The interval timer as an expiry leaves it. -/
def Device.nextInterval (d : Device) : Timer :=
  if d.scan.config.mode.repeats then some (d.scan.config.interval * 10) else none

variable {ms : Nat}

theorem intervalExpires_of_sweep {w : Sweep} (h : d.scan.intervalTimer = some ms) (hw : d.scan.sweep = some w) :
    d.intervalExpires = if d.scan.config.mode.repeats && !d.scan.sweepDue then
      { d with scan := { d.scan with intervalTimer := d.nextInterval, sweepDue := true } }.queueEvent
        (.scanOverrun d.scan.config.mode w.remaining)
      else { d with scan := { d.scan with intervalTimer := d.nextInterval } } := by
  simp only [Device.intervalExpires, h, hw, Option.isNone_some, Bool.false_eq_true, if_false, Device.nextInterval]

theorem intervalExpires_of_pending {c : ScanConfig} (h : d.scan.intervalTimer = some ms) (hw : d.scan.sweep = none)
    (hc : d.scan.pending = some c) : d.intervalExpires =
      ({ d with scan := { d.scan with intervalTimer := d.nextInterval } } : Device).applyConfig c := by
  simp only [Device.intervalExpires, h, hw, hc, Option.isNone_some, Bool.false_eq_true, if_false, Device.nextInterval]

theorem intervalExpires_of_no_pending (h : d.scan.intervalTimer = some ms) (hw : d.scan.sweep = none)
    (hc : d.scan.pending = none) : d.intervalExpires =
      ({ d with scan := { d.scan with intervalTimer := d.nextInterval } } : Device).startSweep := by
  simp only [Device.intervalExpires, h, hw, hc, Option.isNone_some, Bool.false_eq_true, if_false, Device.nextInterval]

theorem nextInterval_of_repeats (h : d.scan.config.mode.repeats = true) :
    d.nextInterval = some (d.scan.config.interval * 10) := if_pos h

theorem repeats_of_once {m : ScanMode} (h : m = .single ∨ m = .sweep) : m.repeats = false := by
  obtain rfl | rfl := h <;> rfl

theorem nextInterval_of_once (h : d.scan.config.mode = .single ∨ d.scan.config.mode = .sweep) :
    d.nextInterval = none := if_neg (Bool.eq_false_iff.mp (repeats_of_once h))

end

/-! #### The poll list's lines (R129) -/

theorem any_isLine_iff (l : List PollEntry) (i : LineId) :
    l.any (PollEntry.isLine i) = true ↔ ∃ s f : Bool, PollEntry.line i s f ∈ l := by
  rw [List.any_eq_true]
  constructor
  · rintro ⟨p, hp, hline⟩
    cases p with
    | line j s f =>
      rw [← of_decide_eq_true hline]
      exact ⟨s, f, hp⟩
    | probe st => exact absurd hline Bool.false_ne_true
  · rintro ⟨s, f, h⟩
    exact ⟨_, h, decide_eq_true rfl⟩

theorem addLine_of_absent {l : List PollEntry} {i : LineId} (sweep followUp : Bool)
    (h : ∀ s f : Bool, PollEntry.line i s f ∉ l) : addLine l i sweep followUp = l ++ [.line i sweep followUp] := by
  refine if_neg ?_
  rw [any_isLine_iff]
  rintro ⟨s, f, hmem⟩
  exact h s f hmem

theorem addLine_of_present {l : List PollEntry} {i : LineId} (sweep followUp : Bool)
    (h : ∃ s f : Bool, PollEntry.line i s f ∈ l) :
    addLine l i sweep followUp = l.map (PollEntry.mark i sweep followUp) := if_pos ((any_isLine_iff l i).mpr h)

theorem followUpDue_iff (d : Device) (i : LineId) : d.followUpDue i = true ↔
    d.lines[i].triggerInFlight.isSome = true ∨
      ∃ k : SlotId, d.bridge.slots[k].state = .awaiting ∧ d.bridge.slots[k].forLine i = true := by
  simp only [Device.followUpDue, Bool.or_eq_true, List.any_eq_true, Bool.and_eq_true, decide_eq_true_eq, mem_allSlots,
    true_and]

theorem syncFollowUp_scan (d : Device) (i : LineId) : (d.syncFollowUp i).scan = { d.scan with
    followUp := put d.scan.followUp i (
      if d.followUpDue i = false then none
      else if d.scan.followUp[i].isSome then d.scan.followUp[i] else some 100) } := by
  unfold Device.syncFollowUp
  cases d.followUpDue i <;> rfl

/-! #### Sweeps (R124, R125, R126) -/

section
variable {d : Device}

theorem applyConfig_of_off {c : ScanConfig} (h : c.mode = .off) : d.applyConfig c =
    { d with scan := { d.scan with config := c, pending := none, intervalTimer := none, sweepDue := false } } := by
  simp only [Device.applyConfig, h]

theorem applyConfig_of_once {c : ScanConfig} (h : c.mode = .single ∨ c.mode = .sweep) : d.applyConfig c =
    ({ d with scan := { d.scan with
      config := c, pending := none, intervalTimer := none, sweepDue := false } } : Device).startSweep := by
  obtain h | h := h <;> simp only [Device.applyConfig, h]

theorem ScanMode.repeats_iff (m : ScanMode) :
    m.repeats = true ↔ m = .repeat_ ∨ m = .repeatSweep ∨ m = .prioritySweep := by
  cases m <;> decide

theorem applyConfig_of_repeats {c : ScanConfig} (h : c.mode.repeats = true) : d.applyConfig c =
    let d' := ({ d with scan := { d.scan with
      config := c, pending := none, intervalTimer := none, sweepDue := false } } : Device).startSweep
    { d' with scan := { d'.scan with intervalTimer := some (c.interval * 10) } } := by
  obtain h | h | h := (ScanMode.repeats_iff _).mp h <;> simp only [Device.applyConfig, h]

theorem sweepMembers_of_off (h : d.scan.config.mode = .off) : d.sweepMembers = [] := by
  simp only [Device.sweepMembers, h]

theorem sweepMembers_of_target (h : d.scan.config.mode = .single ∨ d.scan.config.mode = .repeat_) :
    d.sweepMembers = [d.scan.config.target].filter d.eligible := by
  obtain h | h := h <;> simp only [Device.sweepMembers, h]

theorem sweepMembers_of_set (h : d.scan.config.mode = .sweep ∨ d.scan.config.mode = .repeatSweep) :
    d.sweepMembers = all16.filter fun i => inSet d.scan.config.scanSet i && d.eligible i := by
  obtain h | h := h <;> simp only [Device.sweepMembers, h]

theorem sweepMembers_of_priority (h : d.scan.config.mode = .prioritySweep) : d.sweepMembers =
    all16.filter fun i => (inSet d.scan.config.prioritySet i && d.eligible i) || decide (d.outsideLine = some i) := by
  simp only [Device.sweepMembers, h]

theorem sweepMembers_pairwise (d : Device) : d.sweepMembers.Pairwise (· < ·) := by
  cases hmode : d.scan.config.mode with
  | off =>
    rw [sweepMembers_of_off hmode]
    exact List.Pairwise.nil
  | single =>
    rw [sweepMembers_of_target (.inl hmode)]
    exact (List.pairwise_singleton _ _).filter _
  | repeat_ =>
    rw [sweepMembers_of_target (.inr hmode)]
    exact (List.pairwise_singleton _ _).filter _
  | sweep =>
    rw [sweepMembers_of_set (.inl hmode)]
    exact all16_pairwise.filter _
  | repeatSweep =>
    rw [sweepMembers_of_set (.inr hmode)]
    exact all16_pairwise.filter _
  | prioritySweep =>
    rw [sweepMembers_of_priority hmode]
    exact all16_pairwise.filter _

/-- What a search finds comes before everything else it would find. -/
theorem le_of_find?_lowest {n : Nat} {p : Fin n → Bool} {l : List (Fin n)} {a x : Fin n} (hl : l.Pairwise (· < ·))
    (ha : l.find? p = some a) (hx : x ∈ l) (hp : p x = true) : a ≤ x := by
  induction l with
  | nil => exact absurd hx List.not_mem_nil
  | cons y l ih =>
    obtain ⟨hy, hl⟩ := List.pairwise_cons.mp hl
    by_cases hpy : p y = true
    case pos =>
      rw [List.find?_cons_of_pos hpy] at ha
      obtain rfl := Option.some.inj ha
      obtain rfl | hx := List.mem_cons.mp hx
      · exact le_refl _
      · exact le_of_lt (hy x hx)
    case neg =>
      rw [List.find?_cons_of_neg hpy] at ha
      obtain rfl | hx := List.mem_cons.mp hx
      · exact absurd hp hpy
      · exact ih hl ha hx

/-- R125: the first line after the pointer that fits. -/
theorem find?_after16_iff (p : Fin 16 → Bool) (pointer i : Fin 16) : (after16 pointer).find? p = some i ↔
    p i = true ∧ ∀ j, p j = true → (i - pointer - 1).val ≤ (j - pointer - 1).val := by
  have hplace (j : Fin 16) : pointer + 1 + (j - pointer - 1) = j := by abel
  have hoffset (k : Fin 16) : pointer + 1 + k - pointer - 1 = k := by abel
  unfold after16
  rw [List.find?_map, Option.map_eq_some_iff]
  constructor
  · rintro ⟨k, hk, rfl⟩
    refine ⟨List.find?_some (p := p ∘ fun k => pointer + 1 + k) hk, fun j hj => ?_⟩
    rw [hoffset]
    refine le_of_find?_lowest all16_pairwise hk (mem_all16 _) ?_
    rw [Function.comp_apply, hplace]
    exact hj
  · rintro ⟨hi, hfirst⟩
    refine ⟨i - pointer - 1, find?_lowest all16_pairwise (mem_all16 _) ?_ fun k _ hk => ?_, hplace i⟩
    · rw [Function.comp_apply, hplace]
      exact hi
    · rw [Function.comp_apply, ← Bool.not_eq_true]
      intro hk'
      have hle := hfirst _ hk'
      rw [hoffset] at hle
      exact absurd hk (not_lt.mpr hle)

theorem makeLinesDue_eq (l : List LineId) (d : Device) : l.foldl (fun d i => d.makeLineDue true false i) d =
    { d with scan := { d.scan with pollList := l.foldl (fun l i => addLine l i true false) d.scan.pollList } } := by
  induction l generalizing d with
  | nil => rfl
  | cons i l ih =>
    rw [List.foldl_cons, ih]
    rfl

/-- The pointer after a sweep's start (R125). -/
def Device.nextPointer (d : Device) : LineId :=
  if d.scan.config.mode = .prioritySweep then d.outsideLine.getD d.scan.pointer else d.scan.pointer

theorem startSweep_of_members (h : d.sweepMembers ≠ []) : d.startSweep = { d with scan := { d.scan with
    pointer := d.nextPointer
    sweep := some { members := d.sweepMembers.map fun i => (i, .outstanding), sent := 0, received := 0 }
    pollList := d.sweepMembers.foldl (fun l i => addLine l i true false) d.scan.pollList } } := by
  have hmembers : ¬ d.sweepMembers.isEmpty = true := fun hempty => h (List.isEmpty_iff.mp hempty)
  unfold Device.startSweep
  dsimp only
  rw [if_neg hmembers, makeLinesDue_eq]
  rfl

theorem closeSweep_of_repeats {w : Sweep} (hw : d.scan.sweep = some w) (h : d.scan.config.mode.repeats = true) :
    d.closeSweep = { d with scan := { d.scan with sweep := none } } := by
  simp only [Device.closeSweep, hw, h, if_true]

theorem closeSweep_of_once {w : Sweep} (hw : d.scan.sweep = some w) (h : d.scan.config.mode.repeats = false) :
    d.closeSweep = { d.queueEvent (.scanDone d.scan.config.mode w.sent w.received) with
      scan := { d.scan with sweep := none, config := { d.scan.config with mode := .off } } } := by
  simp only [Device.closeSweep, hw, h, Bool.false_eq_true, if_false]
  rfl

/-- The part as a sweep with no members leaves it before it closes. -/
def Device.emptySweep (d : Device) : Device := { d with scan := { d.scan with
  pointer := d.nextPointer, sweep := some { members := [], sent := 0, received := 0 } } }

theorem startSweep_of_none (h : d.sweepMembers = []) : d.startSweep = d.emptySweep.closeSweep := by
  unfold Device.startSweep
  dsimp only
  rw [h, if_pos List.isEmpty_nil]
  rfl

theorem memberDone_eq {w : Sweep} (i : LineId) (received : Bool) (hw : d.scan.sweep = some w) :
    d.memberDone i received = ({ d with scan := { d.scan with sweep := some { w with
      members := w.members.map (fun (p : LineId × MemberState) => if p.1 = i then (p.1, .done) else p)
      received := w.received + (if received then 1 else 0) } } } : Device).checkSweep := by
  unfold Device.memberDone Device.updSweep
  rw [hw]
  cases received <;> rfl

theorem checkSweep_of_unfinished {w : Sweep} (hw : d.scan.sweep = some w) (h : ∃ p ∈ w.members, p.2 ≠ .done) :
    d.checkSweep = d := by
  obtain ⟨p, hp, hdone⟩ := h
  have hnot : ¬ w.finished = true := fun hall => hdone (of_decide_eq_true (List.all_eq_true.mp hall p hp))
  simp only [Device.checkSweep, hw, if_neg hnot]

theorem checkSweep_of_finished {w : Sweep} (hw : d.scan.sweep = some w) (h : ∀ p ∈ w.members, p.2 = .done) :
    d.checkSweep = d.finishSweep := by
  have hall : w.finished = true := List.all_eq_true.mpr fun p hp => decide_eq_true (h p hp)
  simp only [Device.checkSweep, hw, if_pos hall]

theorem finishSweep_of_once (h : d.scan.config.mode.repeats = false) : d.finishSweep =
    match d.closeSweep.scan.pending with
    | some c => d.closeSweep.applyConfig c
    | none => d.closeSweep := if_neg (Bool.eq_false_iff.mp h)

theorem finishSweep_of_not_due (h : d.scan.config.mode.repeats = true) (hdue : d.scan.sweepDue = false) :
    d.finishSweep = d.closeSweep := (if_pos h).trans (if_neg (Bool.eq_false_iff.mp hdue))

theorem finishSweep_of_due (h : d.scan.config.mode.repeats = true) (hdue : d.scan.sweepDue = true) :
    d.finishSweep = match d.closeSweep.scan.pending with
      | some c => d.closeSweep.applyConfig c
      | none => ({ d.closeSweep with scan := { d.closeSweep.scan with sweepDue := false } } : Device).startSweep :=
  (if_pos h).trans (if_pos hdue)

end

/-- Settles O51. -/
theorem scanTimerExpiries : Obligations.ScanTimerExpiries := by
  unfold Obligations.ScanTimerExpiries
  refine ⟨?probe, ?followUp, ?overrun, ?overrunAgain, ?sweeps, ?applies, ?sweepsOnce, ?appliesOnce, addProbe_eq,
    ?addLine, fun d i => ⟨syncFollowUp_scan d i, followUpDue_iff d i⟩, ?config, ?members, ?outside, ?start, ?worked,
    ?finishOnce, ?finishRepeats⟩
  case probe =>
    intro s st ms h hdue
    exact next_onDevice_congr (congrArg Device.settle (probeExpires_of_due h hdue))
  case followUp =>
    intro s i ms h hdue
    exact next_onDevice_congr (congrArg Device.settle (followUpExpires_of_due h hdue))
  case overrun =>
    intro s ms w h hw hrepeats hdue
    refine next_onDevice_congr (congrArg Device.settle ?_)
    rw [intervalExpires_of_sweep h hw, nextInterval_of_repeats hrepeats, hrepeats, hdue]
    exact if_pos rfl
  case overrunAgain =>
    intro s ms w h hw hrepeats hdue
    refine next_onDevice_congr (congrArg Device.settle ?_)
    rw [intervalExpires_of_sweep h hw, nextInterval_of_repeats hrepeats, hrepeats, hdue]
    exact if_neg Bool.false_ne_true
  case sweeps =>
    intro s ms h hw hrepeats hc
    refine next_onDevice_congr (congrArg Device.settle ?_)
    rw [intervalExpires_of_no_pending h hw hc, nextInterval_of_repeats hrepeats]
  case applies =>
    intro s ms c h hw hrepeats hc
    refine next_onDevice_congr (congrArg Device.settle ?_)
    rw [intervalExpires_of_pending h hw hc, nextInterval_of_repeats hrepeats]
  case sweepsOnce =>
    intro s ms h hw honce hc
    refine next_onDevice_congr (congrArg Device.settle ?_)
    rw [intervalExpires_of_no_pending h hw hc, nextInterval_of_once honce]
  case appliesOnce =>
    intro s ms c h hw honce hc
    refine next_onDevice_congr (congrArg Device.settle ?_)
    rw [intervalExpires_of_pending h hw hc, nextInterval_of_once honce]
  case addLine =>
    intro l i sweep followUp
    exact ⟨addLine_of_absent sweep followUp, addLine_of_present sweep followUp⟩
  case config => exact fun d c => ⟨applyConfig_of_off, applyConfig_of_once, applyConfig_of_repeats⟩
  case members =>
    intro d i c
    refine ⟨sweepMembers_of_off, fun h => ?_, fun h => ?_, fun h => ?_, sweepMembers_pairwise d⟩
    · rw [sweepMembers_of_target h, List.mem_filter, List.mem_singleton]
    · rw [sweepMembers_of_set h, List.mem_filter, Bool.and_eq_true]
      exact and_iff_right (mem_all16 i)
    · rw [sweepMembers_of_priority h, List.mem_filter, Bool.or_eq_true, Bool.and_eq_true, decide_eq_true_eq]
      exact and_iff_right (mem_all16 i)
  case outside => exact fun d i => find?_after16_iff _ _ i
  case start =>
    intro d
    exact ⟨startSweep_of_members, fun hnone hrepeats => (startSweep_of_none hnone).trans
        (closeSweep_of_repeats (d := d.emptySweep) rfl hrepeats),
      fun hnone honce => (startSweep_of_none hnone).trans (closeSweep_of_once (d := d.emptySweep) rfl honce)⟩
  case worked =>
    intro d i received w hw w' d'
    have hdone := memberDone_eq i received hw
    exact ⟨fun h => hdone.trans (checkSweep_of_unfinished rfl h), fun h => hdone.trans (checkSweep_of_finished rfl h)⟩
  case finishOnce =>
    intro d w hw honce d'
    have hfinish := finishSweep_of_once honce
    rw [closeSweep_of_once hw honce] at hfinish
    exact hfinish
  case finishRepeats =>
    intro d w hw hrepeats d'
    have hclosed := closeSweep_of_repeats hw hrepeats
    refine ⟨fun hdue => (finishSweep_of_not_due hrepeats hdue).trans hclosed, fun hdue => ?_⟩
    have hfinish := finishSweep_of_due hrepeats hdue
    rw [hclosed] at hfinish
    exact hfinish

end Sys2Proof.Machine

/-! ### Several slots ended, and the lines of a takeover (for O34, O47, O49, O54, O59) -/

namespace Sys2Proof.Machine

/-! #### What the end of slots leaves of the lists -/

/-- No tend entry is new, and the trigger unit stands. -/
structure EndKept (d d' : Device) : Prop where
  tend : ∀ y ∈ d'.tend, y ∈ d.tend
  trig : d'.trig = d.trig

theorem EndKept.refl (d : Device) : EndKept d d := ⟨fun _ h => h, rfl⟩

theorem EndKept.trans {a b c : Device} (h : EndKept a b) (k : EndKept b c) : EndKept a c :=
  ⟨fun y hy => h.tend y (k.tend y hy), k.trig.trans h.trig⟩

theorem detach_endKept (d : Device) (o : FrameOwner) : EndKept d (d.detach o) := by
  rw [detach_eq]
  exact ⟨fun _ h => h, rfl⟩

theorem removeTend_trig (d : Device) (i : LineId) : (d.removeTend i).trig = d.trig := by rw [removeTend_eq]

theorem removeTend_endKept (d : Device) (i : LineId) : EndKept d (d.removeTend i) := by
  refine ⟨fun y hy => ?_, removeTend_trig d i⟩
  rw [removeTend_tend] at hy
  exact List.mem_of_mem_filter hy

theorem updLine_endKept (d : Device) (i : LineId) (f : LineRecord → LineRecord) : EndKept d (d.updLine i f) :=
  ⟨fun _ h => h, rfl⟩

theorem setState_endKept (d : Device) (i : LineId) (x : LineState) : EndKept d (d.setState i x) := by
  unfold Device.setState
  dsimp only
  split
  · exact (updLine_endKept d i _).trans (removeTend_endKept _ i)
  · exact updLine_endKept d i _

theorem queueEvent_endKept (d : Device) (e : Event) : EndKept d (d.queueEvent e) := ⟨fun _ h => h, rfl⟩

theorem putFault_endKept (d : Device) (i : LineId) (c : FaultCause) : EndKept d (d.putFault i c) := by
  have hstate := setState_endKept d i .fault
  unfold Device.putFault
  dsimp only
  split
  · exact hstate.trans (updLine_endKept _ i _)
  · exact (hstate.trans (updLine_endKept _ i _)).trans (queueEvent_endKept _ _)

theorem resyncUnlessFault_endKept (d : Device) (i : LineId) : EndKept d (d.resyncUnlessFault i) := by
  unfold Device.resyncUnlessFault
  split
  · exact EndKept.refl d
  · exact updLine_endKept d i _

theorem applyResult_endKept (d : Device) (c : SlotCommand) (b : SlotState) (res : SlotResult) :
    EndKept d (d.applyResult c b res) := by
  unfold Device.applyResult
  cases res
  case done =>
    dsimp only
    split
    · exact setState_endKept d _ _
    · exact resyncUnlessFault_endKept d _
  case failed | actionTimeout | refused | noResponse =>
    dsimp only
    split
    · exact putFault_endKept d _ _
    · exact resyncUnlessFault_endKept d _
  case aborted | preempted =>
    dsimp only
    split
    · split
      · rw [restoreState_eq]
        exact setState_endKept d _ _
      · exact EndKept.refl d
    · exact updLine_endKept d _ _

/-! #### One slot -/

/-- A slot that an end acts on (R75). -/
def Slot.endable (x : Slot) : Prop := x.live = true ∧ x.command ≠ none

theorem endSlot_of_not_endable {d : Device} {k : SlotId} (res : SlotResult) (h : ¬ d.bridge.slots[k].endable) :
    d.endSlot k res = d := by
  unfold Device.endSlot
  dsimp only
  split
  next => rfl
  next c hc =>
    refine if_neg fun hlive => h ⟨hlive, ?_⟩
    rw [hc]
    exact Option.some_ne_none c

theorem reported_endKept (d : Device) (k : SlotId) (res : SlotResult) : EndKept d (d.reported k res) := by
  have hset : EndKept d (d.setSlot k (d.bridge.slots[k].ended res)) := ⟨fun _ h => h, rfl⟩
  have hdetach := hset.trans (detach_endKept _ (.confirmed k))
  exact ⟨hdetach.tend, hdetach.trig⟩

theorem endSlot_endKept (d : Device) (k : SlotId) (res : SlotResult) : EndKept d (d.endSlot k res) := by
  by_cases h : d.bridge.slots[k].endable
  case neg =>
    rw [endSlot_of_not_endable res h]
    exact EndKept.refl d
  case pos =>
    obtain ⟨hlive, hcommand⟩ := h
    obtain ⟨c, hc⟩ := Option.ne_none_iff_exists'.mp hcommand
    rw [endSlot_of_live hc hlive]
    have happlied := (reported_endKept d k res).trans (applyResult_endKept _ c d.bridge.slots[k].state res)
    exact ⟨happlied.tend, happlied.trig⟩

theorem endSlot_slot_other (d : Device) {j k : SlotId} (res : SlotResult) (h : k ≠ j) :
    (d.endSlot j res).bridge.slots[k] = d.bridge.slots[k] := by
  by_cases hend : d.bridge.slots[j].endable
  case neg => rw [endSlot_of_not_endable res hend]
  case pos =>
    obtain ⟨hlive, hcommand⟩ := hend
    obtain ⟨c, hc⟩ := Option.ne_none_iff_exists'.mp hcommand
    rw [endSlot_slots hc hlive, put_get_ne _ _ h]

theorem endSlot_slot_self {d : Device} {k : SlotId} (res : SlotResult) (h : d.bridge.slots[k].endable) :
    (d.endSlot k res).bridge.slots[k] =
      { d.bridge.slots[k].ended res with discardTimer := some (d.quay.link.discard * 1000) } := by
  obtain ⟨hlive, hcommand⟩ := h
  obtain ⟨c, hc⟩ := Option.ne_none_iff_exists'.mp hcommand
  rw [endSlot_slots hc hlive, put_get_self]

/-- A slot stands as it was, or is no longer live. -/
theorem endSlot_slot_cases (d : Device) (j k : SlotId) (res : SlotResult) :
    (d.endSlot j res).bridge.slots[k] = d.bridge.slots[k] ∨ (d.endSlot j res).bridge.slots[k].live = false := by
  by_cases hjk : k = j
  case neg => exact .inl (endSlot_slot_other d res hjk)
  case pos =>
    subst hjk
    by_cases hend : d.bridge.slots[k].endable
    case neg => exact .inl (by rw [endSlot_of_not_endable res hend])
    case pos =>
      rw [endSlot_slot_self res hend]
      exact .inr rfl

theorem Slot.forLine_of_command {x : Slot} {c : SlotCommand} (i : LineId) (h : x.command = some c) :
    x.forLine i = decide (c.line = i) := by
  simp only [Slot.forLine, h]

/-- A line that no live slot is for keeps its record. -/
theorem endSlot_line_other {d : Device} {j : SlotId} {i : LineId} (res : SlotResult)
    (h : d.bridge.slots[j].live = true → d.bridge.slots[j].forLine i = false) :
    (d.endSlot j res).lines[i] = d.lines[i] := by
  by_cases hend : d.bridge.slots[j].endable
  case neg => rw [endSlot_of_not_endable res hend]
  case pos =>
    obtain ⟨hlive, hcommand⟩ := hend
    obtain ⟨c, hc⟩ := Option.ne_none_iff_exists'.mp hcommand
    have hline : i ≠ c.line := fun he => by
      have hfor := h hlive
      rw [Slot.forLine_of_command i hc, he, decide_eq_true rfl] at hfor
      exact Bool.false_ne_true hfor.symm
    rw [endSlot_lines hc hlive, put_get_ne _ _ hline]

/-- No result but a failure queues an event (R14). -/
theorem endSlot_quay_of_not_failure (d : Device) (k : SlotId) {res : SlotResult} (h : res.isFailure = false) :
    (d.endSlot k res).quay = d.quay := by
  by_cases hend : d.bridge.slots[k].endable
  case neg => rw [endSlot_of_not_endable res hend]
  case pos =>
    obtain ⟨hlive, hcommand⟩ := hend
    obtain ⟨c, hc⟩ := Option.ne_none_iff_exists'.mp hcommand
    rw [endSlot_quay hc hlive]
    exact if_neg fun hfailure => Bool.false_ne_true (h.symm.trans hfailure.1)

/-! #### Slots one after another -/

theorem endSlots_cons (d : Device) (k : SlotId) (ks : List SlotId) (res : SlotResult) :
    d.endSlots (k :: ks) res = (d.endSlot k res).endSlots ks res := rfl

theorem endSlots_endKept (d : Device) (ks : List SlotId) (res : SlotResult) : EndKept d (d.endSlots ks res) := by
  induction ks generalizing d with
  | nil => exact EndKept.refl d
  | cons k ks ih => exact (endSlot_endKept d k res).trans (ih _)

theorem endSlots_quay_of_not_failure (d : Device) (ks : List SlotId) {res : SlotResult} (h : res.isFailure = false) :
    (d.endSlots ks res).quay = d.quay := by
  induction ks generalizing d with
  | nil => rfl
  | cons k ks ih => exact (ih _).trans (endSlot_quay_of_not_failure d k h)

theorem endSlots_slot_other (d : Device) {ks : List SlotId} {k : SlotId} (res : SlotResult) (h : k ∉ ks) :
    (d.endSlots ks res).bridge.slots[k] = d.bridge.slots[k] := by
  induction ks generalizing d with
  | nil => rfl
  | cons j ks ih =>
    have hj : k ≠ j := fun he => h (he ▸ List.mem_cons_self)
    exact (ih _ fun hks => h (List.mem_cons_of_mem j hks)).trans (endSlot_slot_other d res hj)

theorem endSlots_slot_of_not_endable {d : Device} (ks : List SlotId) {k : SlotId} (res : SlotResult)
    (h : ¬ d.bridge.slots[k].endable) : (d.endSlots ks res).bridge.slots[k] = d.bridge.slots[k] := by
  induction ks generalizing d with
  | nil => rfl
  | cons j ks ih =>
    have hsame : (d.endSlot j res).bridge.slots[k] = d.bridge.slots[k] := by
      by_cases hjk : k = j
      case neg => exact endSlot_slot_other d res hjk
      case pos =>
        subst hjk
        rw [endSlot_of_not_endable res h]
    rw [endSlots_cons]
    exact (ih (by rwa [hsame])).trans hsame

/-- A slot that an end has reached stays as the end leaves it. -/
theorem endSlots_slot_ended {d : Device} {ks : List SlotId} {k : SlotId} (res : SlotResult) (hk : k ∈ ks)
    (h : d.bridge.slots[k].endable) : (d.endSlots ks res).bridge.slots[k].state = .complete ∧
      (d.endSlots ks res).bridge.slots[k].result = some res := by
  induction ks generalizing d with
  | nil => exact absurd hk List.not_mem_nil
  | cons j ks ih =>
    rw [endSlots_cons]
    by_cases hjk : k = j
    case neg =>
      have hsame := endSlot_slot_other d res hjk
      exact ih ((List.mem_cons.mp hk).resolve_left hjk) (by rwa [hsame])
    case pos =>
      subst hjk
      have hself := endSlot_slot_self res h
      have hnot : ¬ (d.endSlot k res).bridge.slots[k].endable := fun hend => by
        rw [hself] at hend
        exact Bool.false_ne_true hend.1
      rw [endSlots_slot_of_not_endable ks res hnot, hself]
      exact ⟨rfl, rfl⟩

/-- No live slot of the list but `k` is for line `i`. -/
def Device.onlySlot (d : Device) (ks : List SlotId) (k : Option SlotId) (i : LineId) : Prop :=
  ∀ j ∈ ks, some j ≠ k → d.bridge.slots[j].live = true → d.bridge.slots[j].forLine i = false

theorem onlySlot_endSlot {d : Device} {j : SlotId} {ks : List SlotId} {k : Option SlotId} {i : LineId}
    (res : SlotResult) (h : d.onlySlot (j :: ks) k i) : (d.endSlot j res).onlySlot ks k i := by
  intro x hx hxk hlive
  obtain hsame | hdead := endSlot_slot_cases d j x res
  · rw [hsame] at hlive ⊢
    exact h x (List.mem_cons_of_mem j hx) hxk hlive
  · exact absurd (hlive.symm.trans hdead) Bool.true_eq_false.mp

theorem endSlots_line_other {d : Device} {ks : List SlotId} {i : LineId} (res : SlotResult) (h : d.onlySlot ks none i) :
    (d.endSlots ks res).lines[i] = d.lines[i] := by
  induction ks generalizing d with
  | nil => rfl
  | cons j ks ih =>
    exact (ih (onlySlot_endSlot res h)).trans
      (endSlot_line_other res (h j List.mem_cons_self (Option.some_ne_none j)))

/-- R13 to R16, for the one slot of the list that is for the line. -/
theorem endSlots_line {d : Device} {ks : List SlotId} {k : SlotId} {c : SlotCommand} (res : SlotResult) (hk : k ∈ ks)
    (hc : d.bridge.slots[k].command = some c) (hlive : d.bridge.slots[k].live = true)
    (h : d.onlySlot ks (some k) c.line) :
    (d.endSlots ks res).lines[c.line] = d.lines[c.line].afterResult c d.bridge.slots[k].state res := by
  induction ks generalizing d with
  | nil => exact absurd hk List.not_mem_nil
  | cons j ks ih =>
    rw [endSlots_cons]
    by_cases hjk : k = j
    case neg =>
      have hsame := endSlot_slot_other d res hjk
      have hline : (d.endSlot j res).lines[c.line] = d.lines[c.line] :=
        endSlot_line_other res (h j List.mem_cons_self fun he => hjk (Option.some.inj he).symm)
      have hrest := ih ((List.mem_cons.mp hk).resolve_left hjk) (by rw [hsame, hc]) (by rw [hsame, hlive])
        (onlySlot_endSlot res h)
      rw [hrest, hline, hsame]
    case pos =>
      subst hjk
      have hdead : (d.endSlot k res).bridge.slots[k].live = false := by
        rw [endSlot_slot_self res ⟨hlive, by rw [hc]; exact Option.some_ne_none c⟩]
        rfl
      have hnone : (d.endSlot k res).onlySlot ks none c.line := by
        intro x hx _ hxlive
        refine onlySlot_endSlot res h x hx (fun he => ?_) hxlive
        rw [Option.some.inj he, hdead] at hxlive
        exact Bool.false_ne_true hxlive
      rw [endSlots_line_other res hnone, endSlot_lines hc hlive, put_get_self]

/-! #### The slots that satisfy a test -/

theorem mem_insertByOrder_iff (d : Device) (k j : SlotId) (l : List SlotId) :
    j ∈ insertByOrder d k l ↔ j = k ∨ j ∈ l := by
  induction l with
  | nil => exact List.mem_cons
  | cons x l ih =>
    unfold insertByOrder
    split
    · exact List.mem_cons
    · rw [List.mem_cons, ih, List.mem_cons]
      exact or_left_comm

theorem mem_slotsInOrder (d : Device) (p : Slot → Bool) (k : SlotId) :
    k ∈ d.slotsInOrder p ↔ p d.bridge.slots[k] = true := by
  have hfold (l : List SlotId) : k ∈ l.foldr (insertByOrder d) [] ↔ k ∈ l := by
    induction l with
    | nil => exact Iff.rfl
    | cons x l ih => rw [List.foldr_cons, mem_insertByOrder_iff, ih, List.mem_cons]
  rw [Device.slotsInOrder, hfold, List.mem_filter]
  exact and_iff_right (mem_allSlots k)

section
variable {d : Device} {p : Slot → Bool} {k : SlotId} (res : SlotResult)

theorem endSlotsWhere_slot_ended (hp : p d.bridge.slots[k] = true) (h : d.bridge.slots[k].endable) :
    (d.endSlotsWhere p res).bridge.slots[k].state = .complete ∧
      (d.endSlotsWhere p res).bridge.slots[k].result = some res :=
  endSlots_slot_ended res ((mem_slotsInOrder d p k).mpr hp) h

theorem endSlotsWhere_slot_other (hp : p d.bridge.slots[k] = false) :
    (d.endSlotsWhere p res).bridge.slots[k] = d.bridge.slots[k] := by
  refine endSlots_slot_other d res fun hk => ?_
  exact Bool.false_ne_true (hp.symm.trans ((mem_slotsInOrder d p k).mp hk))

theorem endSlotsWhere_line_other {i : LineId}
    (h : ∀ j : SlotId, p d.bridge.slots[j] = true → d.bridge.slots[j].live = true → d.bridge.slots[j].forLine i = false) :
    (d.endSlotsWhere p res).lines[i] = d.lines[i] :=
  endSlots_line_other res fun j hj _ => h j ((mem_slotsInOrder d p j).mp hj)

theorem endSlotsWhere_line {c : SlotCommand} (hp : p d.bridge.slots[k] = true)
    (hc : d.bridge.slots[k].command = some c) (hlive : d.bridge.slots[k].live = true)
    (h : ∀ j : SlotId, j ≠ k → p d.bridge.slots[j] = true → d.bridge.slots[j].live = true →
      d.bridge.slots[j].forLine c.line = false) :
    (d.endSlotsWhere p res).lines[c.line] = d.lines[c.line].afterResult c d.bridge.slots[k].state res :=
  endSlots_line res ((mem_slotsInOrder d p k).mpr hp) hc hlive fun j hj hjk =>
    h j (fun he => hjk (congrArg some he)) ((mem_slotsInOrder d p j).mp hj)

end

end Sys2Proof.Machine

/-! ### Local Control: takeover, broadcast STOP, HAND BACK (O47, O49) -/

namespace Sys2Proof.Machine

/-! #### The takeover of a line (R24) -/

theorem takeLine_eq (d : Device) (i : LineId) : d.takeLine i =
    { d with lines := put d.lines i d.lines[i].taken, tend := (d.takeLine i).tend, bus := (d.takeLine i).bus } := by
  have hstate : (d.updLine i fun r => { r with owner := .localOwner }).lines[i].state = d.lines[i].state :=
    (congrArg LineRecord.state (put_get_self d.lines i _)).trans rfl
  unfold Device.takeLine Device.endTending LineRecord.taken
  rw [hstate]
  by_cases htending : d.lines[i].state = .tending
  case pos =>
    rw [if_pos htending, if_pos htending, setState_of_leaving (hstate.trans htending) LineState.noConfusion,
      removeTend_eq, updLine_eq, setLine_lines, put_get_self, setLine_setLine]
    rfl
  case neg =>
    rw [if_neg htending, if_neg htending]
    rfl

theorem takeLine_tend (d : Device) (i : LineId) : (d.takeLine i).tend =
    if d.lines[i].state = .tending then d.tend.filter fun t => decide (t.line ≠ i) else d.tend := by
  have hstate : (d.updLine i fun r => { r with owner := .localOwner }).lines[i].state = d.lines[i].state :=
    (congrArg LineRecord.state (put_get_self d.lines i _)).trans rfl
  unfold Device.takeLine Device.endTending
  rw [hstate]
  split
  next htending => rw [setState_tend_of_leaving (hstate.trans htending) LineState.noConfusion, updLine_tend]
  next => rfl

theorem takeLines_eq (l : List LineId) (d : Device) : l.foldl Device.takeLine d =
    { d with
      lines := l.foldl (fun v i => put v i v[i].taken) d.lines
      tend := (l.foldl Device.takeLine d).tend, bus := (l.foldl Device.takeLine d).bus } := by
  induction l generalizing d with
  | nil => rfl
  | cons i l ih =>
    rw [List.foldl_cons, ih, takeLine_eq]
    rfl

theorem takeLines_line {l : List LineId} (hl : l.Nodup) (d : Device) (i : LineId) :
    (l.foldl Device.takeLine d).lines[i] = if i ∈ l then d.lines[i].taken else d.lines[i] := by
  rw [takeLines_eq]
  exact foldl_put_get LineRecord.taken l hl d.lines i

theorem takeLines_tend {l : List LineId} {d : Device} {y : TendEntry} (h : y ∈ (l.foldl Device.takeLine d).tend) :
    y ∈ d.tend ∧ ∀ i ∈ l, d.lines[i].state = .tending → y.line ≠ i := by
  induction l generalizing d with
  | nil => exact ⟨h, fun i hi => absurd hi List.not_mem_nil⟩
  | cons j l ih =>
    obtain ⟨hy, hrest⟩ := ih h
    rw [takeLine_tend] at hy
    have hfirst : y ∈ d.tend ∧ (d.lines[j].state = .tending → y.line ≠ j) := by
      split at hy
      next htending =>
        obtain ⟨hy, hline⟩ := List.mem_filter.mp hy
        exact ⟨hy, fun _ => of_decide_eq_true hline⟩
      next hnot => exact ⟨hy, fun htending => absurd htending hnot⟩
    refine ⟨hfirst.1, fun i hi htending => ?_⟩
    by_cases hij : i = j
    case pos =>
      subst hij
      exact hfirst.2 htending
    case neg =>
      refine hrest i ((List.mem_cons.mp hi).resolve_left hij) ?_
      rw [takeLine_eq]
      exact (congrArg LineRecord.state (put_get_ne d.lines _ hij)).trans htending

theorem LineRecord.taken_binding (r : LineRecord) : r.taken.binding = r.binding := rfl

/-- R15, R16 for a line that is LOCAL: R9 gives LOCKED for TENDING. -/
theorem LineRecord.afterResult_taken (r : LineRecord) (c : SlotCommand) (b : SlotState) :
    r.taken.afterResult c b .preempted = r.taken.preempted c b := by
  rw [LineRecord.afterResult_of_withdrawn _ c b (.inr rfl)]
  have howner : r.taken.owner = .localOwner := rfl
  have hrestored : r.taken.restored c.prior = if c.prior = .tending then .locked else c.prior :=
    if_congr ⟨fun h => h.1, fun h => ⟨h, .inr (.inr howner)⟩⟩ rfl rfl
  rw [hrestored]
  rfl

/-- The lines of `d` taken over where `sel` says so, nothing else of the part but its hold timers changed. -/
structure Takeover (d e : Device) (sel : LineId → Bool) : Prop where
  lines (i : LineId) : e.lines[i] = if sel i = true then d.lines[i].taken else d.lines[i]
  tend (y : TendEntry) (h : y ∈ e.tend) (i : LineId) (hi : sel i = true) (ht : d.lines[i].state = .tending) : y.line ≠ i
  bridge : e.bridge = d.bridge
  quay : e.quay = d.quay
  stations : e.stations = d.stations
  trig : e.trig = d.trig

theorem takeover_of_lines (d : Device) (v : Vector Timer 16) (sel : LineId → Bool) :
    Takeover d ((all16.filter sel).foldl Device.takeLine { d with hold := v }) sel := by
  have hnodup : (all16.filter sel).Nodup := List.Nodup.filter _ (by decide)
  have hmem (i : LineId) : i ∈ all16.filter sel ↔ sel i = true := by
    rw [List.mem_filter]
    exact and_iff_right (mem_all16 i)
  have hlines (i : LineId) : ((all16.filter sel).foldl Device.takeLine { d with hold := v }).lines[i] =
      if sel i = true then d.lines[i].taken else d.lines[i] :=
    (takeLines_line hnodup { d with hold := v } i).trans (if_congr (hmem i) rfl rfl)
  have htend (y : TendEntry) (hy : y ∈ ((all16.filter sel).foldl Device.takeLine { d with hold := v }).tend) :=
    (takeLines_tend hy).2
  refine ⟨hlines, fun y hy i hi ht => htend y hy i ((hmem i).mpr hi) ht, ?_, ?_, ?_, ?_⟩
  all_goals rw [takeLines_eq]

theorem takeLines_hold (l : List LineId) (d : Device) : (l.foldl Device.takeLine d).hold = d.hold := by
  rw [takeLines_eq]

section
variable {d e : Device} {sel : LineId → Bool} {p : Slot → Bool}

theorem Takeover.binding (h : Takeover d e sel) (i : LineId) : e.lines[i].binding = d.lines[i].binding := by
  rw [h.lines]
  split <;> rfl

theorem Takeover.slotOnStation (h : Takeover d e sel) (st : StationId) (x : Slot) :
    e.slotOnStation st x = d.slotOnStation st x := by
  have hon (i : LineId) : e.lines[i].onStation st = d.lines[i].onStation st := by
    unfold LineRecord.onStation
    rw [h.binding]
  unfold Device.slotOnStation
  split
  next c _ => exact hon c.line
  next => rfl

/-- The slots of a test PREEMPTED after the takeover, for a line that none of them is for. -/
theorem Takeover.line_other (h : Takeover d e sel) {i : LineId}
    (hnone : ∀ j : SlotId, p d.bridge.slots[j] = true → d.bridge.slots[j].live = true →
      d.bridge.slots[j].forLine i = false) :
    (e.endSlotsWhere p .preempted).lines[i] = if sel i = true then d.lines[i].taken else d.lines[i] := by
  rw [← h.bridge] at hnone
  exact (endSlotsWhere_line_other _ hnone).trans (h.lines i)

theorem Takeover.line_preempted (h : Takeover d e sel) {k : SlotId} {c : SlotCommand}
    (hp : p d.bridge.slots[k] = true) (hc : d.bridge.slots[k].command = some c) (hlive : d.bridge.slots[k].live = true)
    (hsel : sel c.line = true)
    (hnone : ∀ j : SlotId, j ≠ k → p d.bridge.slots[j] = true → d.bridge.slots[j].live = true →
      d.bridge.slots[j].forLine c.line = false) :
    (e.endSlotsWhere p .preempted).lines[c.line] = d.lines[c.line].taken.preempted c d.bridge.slots[k].state := by
  rw [← h.bridge] at hp hc hlive hnone ⊢
  rw [endSlotsWhere_line _ hp hc hlive hnone, h.lines, if_pos hsel, LineRecord.afterResult_taken]

theorem Takeover.slot_ended (h : Takeover d e sel) {k : SlotId} (hp : p d.bridge.slots[k] = true)
    (hend : d.bridge.slots[k].endable) : (e.endSlotsWhere p .preempted).bridge.slots[k].state = .complete ∧
      (e.endSlotsWhere p .preempted).bridge.slots[k].result = some .preempted := by
  rw [← h.bridge] at hp hend
  exact endSlotsWhere_slot_ended _ hp hend

theorem Takeover.slot_other (h : Takeover d e sel) {k : SlotId} (hp : p d.bridge.slots[k] = false) :
    (e.endSlotsWhere p .preempted).bridge.slots[k] = d.bridge.slots[k] := by
  rw [← h.bridge] at hp ⊢
  exact endSlotsWhere_slot_other _ hp

theorem Takeover.end_tend (h : Takeover d e sel) {y : TendEntry} (hy : y ∈ (e.endSlotsWhere p .preempted).tend)
    {i : LineId} (hi : sel i = true) (ht : d.lines[i].state = .tending) : y.line ≠ i :=
  h.tend y ((endSlots_endKept e _ _).tend y hy) i hi ht

theorem Takeover.end_trig (h : Takeover d e sel) : (e.endSlotsWhere p .preempted).trig = d.trig :=
  (endSlots_endKept e _ _).trig.trans h.trig

theorem Takeover.end_quay (h : Takeover d e sel) : (e.endSlotsWhere p .preempted).quay = d.quay :=
  (endSlots_quay_of_not_failure e _ rfl).trans h.quay

theorem Takeover.end_stations (h : Takeover d e sel) : (e.endSlotsWhere p .preempted).stations = d.stations :=
  (endSlotsWhere_work e p _).stations.trans h.stations

theorem Takeover.end_posted (h : Takeover d e sel) :
    (e.endSlotsWhere p .preempted).bridge.posted = d.bridge.posted :=
  (endSlotsWhere_work e p _).posted.trans (congrArg Bridge.posted h.bridge)

end

/-- An event that may be queued last leaves everything but the Quay Port. -/
theorem ite_queueEvent_eq (c : Prop) [Decidable c] (d : Device) (e : Event) :
    (if c then d.queueEvent e else d) = { d with quay := (if c then d.queueEvent e else d).quay } := by
  split <;> rfl

/-! #### A takeover (R152) -/

/-- The part of a takeover once its lines are taken. -/
def Device.linesTaken (d : Device) (st : StationId) : Device := (d.linesOf st).foldl Device.takeLine (d.startHold st)

theorem linesTaken_takeover (d : Device) (st : StationId) :
    Takeover d (d.linesTaken st) fun i => d.lines[i].onStation st := takeover_of_lines d _ _

/-- The QUEUED slots of a station. -/
def Device.waits (d : Device) (st : StationId) (x : Slot) : Bool :=
  decide (x.state = .queued) && d.slotOnStation st x

theorem waits_endable {d : Device} {st : StationId} {x : Slot} (h : d.waits st x = true) :
    x.state = .queued ∧ x.endable := by
  obtain ⟨hqueued, hon⟩ := Bool.and_eq_true_iff.mp h
  obtain ⟨c, hc, -⟩ := (slotOnStation_iff d st x).mp hon
  refine ⟨of_decide_eq_true hqueued, (Slot.live_iff x).mpr (.inl (of_decide_eq_true hqueued)), ?_⟩
  rw [hc]
  exact Option.some_ne_none c

theorem takeover_eq (d : Device) (st : StationId) (verb : Byte) : d.takeover st verb =
    if d.hold[st].isNone = true then
      ((d.linesTaken st).endSlotsWhere (d.waits st) .preempted).queueEvent
        (.localTaken (some st) (setOf (d.linesOf st)) verb)
    else (d.linesTaken st).endSlotsWhere (d.waits st) .preempted := by
  have hwaits : (fun x : Slot => decide (x.state = .queued) && (d.linesTaken st).slotOnStation st x) = d.waits st :=
    funext fun x => congrArg (decide (x.state = .queued) && ·) ((linesTaken_takeover d st).slotOnStation st x)
  rw [← hwaits]
  rfl

/-- Settles O49. -/
theorem takeoverOfAStation : Obligations.TakeoverOfAStation := by
  unfold Obligations.TakeoverOfAStation
  intro d st verb t waits
  have ht : t = d.takeover st verb := rfl
  have htaken := linesTaken_takeover d st
  have hhold : ((d.linesTaken st).endSlotsWhere (d.waits st) .preempted).hold =
      put d.hold st (some (d.quay.link.hold * 10000)) :=
    (endSlotsWhere_work _ _ _).hold.trans (takeLines_hold _ _)
  have howner (i : LineId) : ((d.linesTaken st).endSlotsWhere (d.waits st) .preempted).lines[i].owner =
      (d.linesTaken st).lines[i].owner := by
    have hkept := congrArg LineRecord.owner ((endSlotsWhere_work (d.linesTaken st) (d.waits st) .preempted).lines i)
    exact hkept
  have hquay : t.quay = (if d.hold[st].isNone = true then
      d.queueEvent (.localTaken (some st) (setOf (d.linesOf st)) verb) else d).quay := by
    rw [ht, takeover_eq]
    split
    · exact queueEvent_quay_congr htaken.end_quay _
    · exact htaken.end_quay
  rw [takeover_eq, ite_queueEvent_eq] at ht
  refine ⟨?_, fun st' hst => ?_, fun i hon hnone => ?_, fun k c hk hc hnone => ?_, fun i hon => ?_, fun i hoff => ?_,
    fun k hk => ?_, fun k hk => ?_, fun i hon htending y hy => ?_, ?_, ?_, ?_, fun hrunning => ?_, fun hstopped => ?_⟩
  · rw [ht]
    exact (congrArg (·[st]) hhold).trans (put_get_self _ _ _)
  · rw [ht]
    exact (congrArg (·[st']) hhold).trans (put_get_ne _ _ hst)
  · rw [ht]
    exact (htaken.line_other fun j hj _ => hnone j hj).trans (if_pos hon)
  · obtain ⟨hqueued, hend⟩ := waits_endable hk
    obtain ⟨c', hc', hon⟩ := (slotOnStation_iff d st d.bridge.slots[k]).mp (Bool.and_eq_true_iff.mp hk).2
    obtain rfl := Option.some.inj (hc.symm.trans hc')
    rw [ht, ← hqueued]
    exact htaken.line_preempted hk hc hend.1 hon fun j hjk hj _ => hnone j hjk hj
  · rw [ht]
    refine (howner i).trans ?_
    rw [htaken.lines, if_pos hon]
    rfl
  · rw [ht]
    refine (htaken.line_other fun j hj _ => ?_).trans (if_neg (Bool.eq_false_iff.mp hoff))
    obtain ⟨c, hc, hon⟩ := (slotOnStation_iff d st d.bridge.slots[j]).mp (Bool.and_eq_true_iff.mp hj).2
    rw [Slot.forLine_of_command i hc]
    refine decide_eq_false fun he => Bool.false_ne_true (hoff.symm.trans ?_)
    rwa [← he]
  · rw [ht]
    exact htaken.slot_ended hk (waits_endable hk).2
  · rw [ht]
    exact htaken.slot_other hk
  · rw [ht] at hy
    exact htaken.end_tend hy hon htending
  · rw [ht]
    exact htaken.end_stations
  · rw [ht]
    exact htaken.end_posted
  · rw [ht]
    exact htaken.end_trig
  · rw [hquay, if_neg]
    rw [Option.isNone_iff_eq_none]
    exact Option.isSome_iff_ne_none.mp hrunning
  · rw [hquay, hstopped]
    exact congrArg Device.quay (if_pos rfl)

end Sys2Proof.Machine

/-! ### Pendant frames (O47) -/

namespace Sys2Proof.Machine

/-! #### A complete pendant frame (R119, R120) -/

theorem pendantChars_of_complete {d : Device} {got cs : List Byte} (order : FreeOrder)
    (h : d.bus.observer = .pendantFrame got) (hlength : (got ++ cs).length = 7) :
    d.pendantChars cs order = d.pendantFrame (got ++ cs) order := by
  have hnot : ¬ (got ++ cs).length < 7 := by omega
  have htake : (got ++ cs).take 7 = got ++ cs := by rw [← hlength, List.take_length]
  simp only [Device.pendantChars, h, if_neg hnot, htake]

theorem pendantFrame_eq (d : Device) (f : List Byte) (order : FreeOrder) : d.pendantFrame f order =
    if crc8 (f.take 6) ≠ f.getD 6 0 then d.setObserver .quiet
    else if 1 ≤ (f.getD 1 0).toNat % 32 ∧ (f.getD 1 0).toNat % 32 ≤ 16 then
      d.setObserver (.pendantWindow f (some d.quay.link.window))
    else if (f.getD 1 0).toNat % 32 = 31 ∧ f.getD 2 0 = 0x08 then d.passEnding order Device.broadcastStop
    else if (f.getD 1 0).toNat % 32 = 30 ∧ f.getD 2 0 = 0x0C then
      d.passEnding order fun d => d.handBack (word16 (f.getD 4 0) (f.getD 5 0))
    else d.setObserver .quiet := by
  refine if_congr (not_congr ?_) rfl rfl
  exact decide_eq_true_iff

/-! #### A broadcast STOP (R153) -/

theorem startHolds_eq (l : List StationId) (d : Device) : l.foldl Device.startHold d =
    { d with hold := l.foldl (fun v st => put v st (some d.quay.link.holdMs)) d.hold } := by
  induction l generalizing d with
  | nil => rfl
  | cons st l ih =>
    rw [List.foldl_cons, ih]
    rfl

/-- The part of a broadcast STOP once its lines are taken. -/
def Device.allTaken (d : Device) : Device := d.assignedLines.foldl Device.takeLine (all16.foldl Device.startHold d)

theorem allTaken_takeover (d : Device) : Takeover d d.allTaken fun i => d.lines[i].assigned := by
  unfold Device.allTaken
  rw [startHolds_eq]
  exact takeover_of_lines d _ _

theorem allTaken_hold (d : Device) (st : StationId) : d.allTaken.hold[st] = some (d.quay.link.hold * 10000) := by
  unfold Device.allTaken
  rw [takeLines_hold, startHolds_eq]
  refine (foldl_put_at (fun _ => some d.quay.link.holdMs) all16 d.hold st).trans ?_
  rw [if_pos (mem_all16 st)]
  rfl

theorem assigned_iff (r : LineRecord) : r.assigned = true ↔ r.binding ≠ none := by
  rw [LineRecord.assigned, Option.isSome_iff_ne_none]

theorem assignedLines_eq (d : Device) :
    d.assignedLines = all16.filter fun (i : LineId) => decide (d.lines[i].binding ≠ none) := by
  refine congrArg (List.filter · all16) (funext fun i => ?_)
  rw [Bool.eq_iff_iff, assigned_iff, decide_eq_true_iff]

theorem anyStopped_iff (d : Device) :
    (all16.any fun st => d.hold[st].isNone) = true ↔ ∃ st : StationId, d.hold[st] = none := by
  simp only [List.any_eq_true, Option.isNone_iff_eq_none, mem_all16, true_and]

theorem broadcastStop_eq (d : Device) : d.broadcastStop =
    if ∃ st : StationId, d.hold[st] = none then
      (d.allTaken.endSlotsWhere Slot.live .preempted).queueEvent (.localTaken none
        (setOf (all16.filter fun (i : LineId) => decide (d.lines[i].binding ≠ none))) 0x08)
    else d.allTaken.endSlotsWhere Slot.live .preempted := by
  rw [← assignedLines_eq]
  exact if_congr (anyStopped_iff d) rfl rfl

/-! #### A HAND BACK (R155) -/

theorem returnStation_linesOf (d : Device) (st st' : StationId) (cause : ReturnCause) :
    (d.returnStation st cause).linesOf st' = d.linesOf st' := by
  refine congrArg (List.filter · all16) (funext fun i => ?_)
  have hbinding : (d.returnStation st cause).lines[i].binding = d.lines[i].binding := by
    rw [returnStation_lines]
    split <;> rfl
  unfold LineRecord.onStation
  rw [hbinding]

/-- Stations returned one after another by a HAND BACK. -/
def Device.returnStations (d : Device) (l : List StationId) : Device :=
  l.foldl (fun d st => d.returnStation st .handBack) d

theorem returnStations_cons (d : Device) (st : StationId) (l : List StationId) :
    d.returnStations (st :: l) = (d.returnStation st .handBack).returnStations l := rfl

theorem returnStations_rest (d : Device) (l : List StationId) : d.returnStations l =
    { d with
      lines := (d.returnStations l).lines, hold := (d.returnStations l).hold, quay := (d.returnStations l).quay } := by
  induction l generalizing d with
  | nil => rfl
  | cons st l ih =>
    rw [returnStations_cons, ih, returnStation_eq]

theorem returnStations_hold (d : Device) (l : List StationId) (st : StationId) :
    (d.returnStations l).hold[st] = if st ∈ l then none else d.hold[st] := by
  induction l generalizing d with
  | nil => rfl
  | cons st' l ih =>
    have hfirst : (d.returnStation st' .handBack).hold[st] = if st = st' then none else d.hold[st] := by
      rw [returnStation_eq]
      exact put_get _ _ _ _
    rw [returnStations_cons, ih, hfirst]
    by_cases hl : st ∈ l
    case pos => rw [if_pos hl, if_pos (List.mem_cons_of_mem st' hl)]
    case neg => simp only [hl, if_false, List.mem_cons, or_false]

theorem returnStations_line (d : Device) (l : List StationId) (i : LineId) : (d.returnStations l).lines[i] =
    if (∃ st ∈ l, d.lines[i].onStation st = true) ∧ d.lines[i].owner = .localOwner
    then { d.lines[i] with owner := .quay, resync := true } else d.lines[i] := by
  induction l generalizing d with
  | nil => exact (if_neg fun ⟨⟨_, hmem, _⟩, _⟩ => List.not_mem_nil hmem).symm
  | cons st l ih =>
    have hfirst := returnStation_lines d st .handBack i
    rw [returnStations_cons, ih]
    by_cases howner : d.lines[i].owner = .localOwner
    case neg =>
      rw [if_neg fun h => howner h.2] at hfirst
      rw [hfirst, if_neg fun h => howner h.2, if_neg fun h => howner h.2]
    case pos =>
      by_cases hon : d.lines[i].onStation st = true
      case pos =>
        rw [if_pos ⟨hon, howner⟩] at hfirst
        rw [hfirst, if_neg fun h => absurd h.2 Owner.noConfusion, if_pos ⟨⟨st, List.mem_cons_self, hon⟩, howner⟩]
      case neg =>
        rw [if_neg fun h => hon h.1] at hfirst
        rw [hfirst]
        refine if_congr (and_congr_left fun _ => ?_) rfl rfl
        constructor
        · rintro ⟨st', hst', hon'⟩
          exact ⟨st', List.mem_cons_of_mem st hst', hon'⟩
        · rintro ⟨st', hst', hon'⟩
          cases List.mem_cons.mp hst' with
          | inl he =>
            rw [he] at hon'
            exact absurd hon' hon
          | inr hst' => exact ⟨st', hst', hon'⟩

theorem returnStations_quay (d : Device) (l : List StationId) : (d.returnStations l).quay =
    (d.queueEvents (l.map fun (st : StationId) => .localReturned st .handBack (setOf (d.linesOf st)))).quay := by
  induction l generalizing d with
  | nil => rfl
  | cons st l ih =>
    rw [returnStations_cons, ih]
    simp only [returnStation_linesOf]
    refine queueEvents_quay_congr (d := d.queueEvent _) ?_ _
    rw [returnStation_eq]

/-- The stations that a HAND BACK returns: those it names whose timer runs. -/
def Device.handsBack (d : Device) (arg : Word16) (st : StationId) : Bool :=
  d.hold[st].isSome && (decide (arg.toNat = 31) || decide (arg.toNat = number st))

theorem handBackStations_eq {l : List StationId} (hl : l.Nodup) (d : Device) :
    l.foldl Device.handBackStation d = d.returnStations (l.filter fun st => d.hold[st].isSome) := by
  induction l generalizing d with
  | nil => rfl
  | cons st l ih =>
    obtain ⟨hst, hl⟩ := List.nodup_cons.mp hl
    have hkept : (l.filter fun st' => (d.handBackStation st).hold[st'].isSome) =
        l.filter fun st' => d.hold[st'].isSome := by
      refine List.filter_congr fun st' hst' => ?_
      have hne : st' ≠ st := fun he => hst (he ▸ hst')
      unfold Device.handBackStation
      split
      · rw [returnStation_eq]
        exact congrArg Option.isSome (put_get_ne d.hold none hne)
      · rfl
    rw [List.foldl_cons, ih hl, hkept, Device.handBackStation]
    by_cases hrunning : d.hold[st].isSome = true
    case pos =>
      rw [if_pos hrunning, List.filter_cons_of_pos (by exact hrunning)]
      rfl
    case neg => rw [if_neg hrunning, List.filter_cons_of_neg (by exact hrunning)]

theorem filter_all16_eq (st : StationId) : all16.filter (fun x => decide (x = st)) = [st] := by
  revert st
  decide

theorem handBack_eq (d : Device) (arg : Word16) : d.handBack arg = d.returnStations (all16.filter (d.handsBack arg)) := by
  have hnodup : all16.Nodup := by decide
  unfold Device.handBack
  by_cases hall : arg.toNat = 31
  case pos =>
    rw [if_pos hall, handBackStations_eq hnodup]
    refine congrArg d.returnStations (List.filter_congr fun st _ => ?_)
    simp only [Device.handsBack, hall, decide_true, Bool.true_or, Bool.and_true]
  case neg =>
    rw [if_neg hall]
    by_cases hone : 1 ≤ arg.toNat ∧ arg.toNat ≤ 16
    case pos =>
      rw [dif_pos hone]
      obtain ⟨st, hst⟩ : ∃ st : StationId, st = ⟨arg.toNat - 1, by omega⟩ := ⟨_, rfl⟩
      have hval : st.val = arg.toNat - 1 := congrArg Fin.val hst
      have hback : all16.filter (d.handsBack arg) = [st].filter fun st => d.hold[st].isSome := by
        rw [← filter_all16_eq st, List.filter_filter]
        refine List.filter_congr fun st' _ => congrArg (d.hold[st'].isSome && ·) ?_
        have hnumber : arg.toNat = number st' ↔ st' = st := by
          rw [Fin.ext_iff, number]
          omega
        rw [decide_eq_false hall, Bool.false_or, decide_eq_decide.mpr hnumber]
      rw [hback, ← handBackStations_eq (List.nodup_singleton st), ← hst]
      rfl
    case neg =>
      have hnone : all16.filter (d.handsBack arg) = [] := by
        refine List.filter_eq_nil_iff.mpr fun st _ hback => ?_
        obtain heq | heq := Bool.or_eq_true_iff.mp (Bool.and_eq_true_iff.mp hback).2
        · exact hall (of_decide_eq_true heq)
        · have hnumber : arg.toNat = st.val + 1 := of_decide_eq_true heq
          omega
      rw [dif_neg hone, hnone]
      rfl

/-- Settles O47. -/
theorem pendantFrames : Obligations.PendantFrames := by
  unfold Obligations.PendantFrames
  refine ⟨?frame, ?stop, ?handBack⟩
  case frame =>
    intro s got cs order h hlength f dest
    have hframe := (pendantChars_of_complete order h hlength).trans (pendantFrame_eq s.dev (got ++ cs) order)
    cases order with
    | endingFirst => exact next_onDevice_congr (congrArg Device.settle hframe)
    | choiceFirst => exact next_onDevice_congr (congrArg Device.settle hframe)
  case stop =>
    intro d t
    have ht : t = d.broadcastStop := rfl
    have htaken := allTaken_takeover d
    have hhold : (d.allTaken.endSlotsWhere Slot.live .preempted).hold = d.allTaken.hold :=
      (endSlotsWhere_work _ _ _).hold
    have hquay : t.quay = (d.queueEvents (if ∃ st : StationId, d.hold[st] = none
        then [.localTaken none (setOf (all16.filter fun (i : LineId) => decide (d.lines[i].binding ≠ none))) 0x08]
        else [])).quay := by
      rw [ht, broadcastStop_eq]
      split
      · exact queueEvent_quay_congr htaken.end_quay _
      · exact htaken.end_quay
    rw [broadcastStop_eq, ite_queueEvent_eq] at ht
    refine ⟨fun st => ?_, fun i hnone => ?_, fun k c hc hlive hnone hbound => ?_, fun k hlive hc => ?_, fun k hdead => ?_,
      fun y hy => ?_, hquay, ?_, ?_, ?_⟩
    · rw [ht]
      exact (congrArg (·[st]) hhold).trans (allTaken_hold d st)
    · rw [ht]
      refine (htaken.line_other fun j _ hj => hnone j hj).trans ?_
      rw [if_congr (assigned_iff _) rfl rfl, ite_not]
    · rw [ht]
      exact htaken.line_preempted hlive hc hlive ((assigned_iff _).mpr hbound) fun j hjk _ hj => hnone j hjk hj
    · rw [ht]
      exact htaken.slot_ended hlive ⟨hlive, hc⟩
    · rw [ht]
      exact htaken.slot_other hdead
    · rw [ht] at hy
      by_contra hnot
      obtain ⟨htending, hbound⟩ := not_or.mp hnot
      exact htaken.end_tend hy ((assigned_iff _).mpr hbound) (not_not.mp htending) rfl
    · rw [ht]
      exact htaken.end_posted
    · rw [ht]
      exact htaken.end_stations
    · rw [ht]
      exact htaken.end_trig
  case handBack =>
    intro d arg t back
    have ht : t = d.returnStations (all16.filter (d.handsBack arg)) := handBack_eq d arg
    have hmem (st : StationId) : st ∈ all16.filter (d.handsBack arg) ↔ back st = true := by
      rw [List.mem_filter]
      exact and_iff_right (mem_all16 st)
    have hrest := returnStations_rest d (all16.filter (d.handsBack arg))
    rw [← ht] at hrest
    refine ⟨fun st => ?_, fun i => ?_, ?_, ?_⟩
    · rw [ht, returnStations_hold]
      exact if_congr (hmem st) rfl rfl
    · rw [ht, returnStations_line]
      exact if_congr (and_congr_left fun _ => exists_congr fun st => and_congr_left fun _ => hmem st) rfl rfl
    · rw [ht]
      exact returnStations_quay d _
    · rw [hrest]
      exact ⟨rfl, rfl, rfl, rfl, rfl, rfl⟩

end Sys2Proof.Machine

/-! ### Trigger conditions, firings and deliveries (O54) -/

namespace Sys2Proof.Machine

/-! #### The sources' conditions (R85, R86, R87) -/

section
variable {d : Device} {en : TriggerEntry}

theorem conditionOf_lineCritical {i : LineId} (h : en.source = .lineCritical i) :
    d.conditionOf en = true ↔ d.lines[i].binding ≠ none ∧ d.lines[i].band = .critical := by
  simp only [Device.conditionOf, h]
  rw [Bool.and_eq_true, assigned_iff, decide_eq_true_iff]

theorem LineRecord.inGroup_iff (r : LineRecord) (g : GroupId) :
    r.inGroup g = true ↔ ∃ b : Binding, r.binding = some b ∧ b.group = g := by
  unfold LineRecord.inGroup
  cases r.binding <;> simp

theorem conditionOf_groupAlarm {g : GroupId} (h : en.source = .groupAlarm g) : d.conditionOf en = true ↔
    ∃ (i : LineId) (b : Binding), d.lines[i].binding = some b ∧ b.group = g ∧
      (d.lines[i].band = .alarm ∨ d.lines[i].band = .critical) := by
  simp only [Device.conditionOf, h]
  rw [List.any_eq_true]
  refine exists_congr fun i => ?_
  rw [Bool.and_eq_true, LineRecord.inGroup_iff, LineRecord.inAlarm_iff, and_iff_right (mem_all16 i), ← exists_and_right]
  exact exists_congr fun b => and_assoc

theorem conditionOf_input {n : InputId} (h : en.source = .input n) : d.conditionOf en = true ↔
    d.trig.inputs[n].debounced = match en.polarity with | .activeHigh => .high | .activeLow => .low := by
  simp only [Device.conditionOf, h]
  cases en.polarity <;> exact decide_eq_true_iff

theorem conditionOf_hostSilent (h : en.source = .hostSilent) : d.conditionOf en = d.quay.hostSilent := by
  simp only [Device.conditionOf, h]

theorem conditionOf_stationLost {st : StationId} (h : en.source = .stationLost st) :
    d.conditionOf en = d.trig.stationLost[st] := by
  simp only [Device.conditionOf, h]

theorem conditionOf_software (h : en.source = .software) : d.conditionOf en = false := by
  simp only [Device.conditionOf, h]

end

/-! #### An entry takes its condition (R88, R89) -/

theorem takeCondition_of_same {d : Device} {e : EntryId}
    (h : d.conditionOf d.trig.entries[e] = d.trig.entries[e].edgeRef) : d.takeCondition e = d := if_pos h

theorem takeCondition_of_change {d : Device} {e : EntryId}
    (h : d.conditionOf d.trig.entries[e] ≠ d.trig.entries[e].edgeRef) : d.takeCondition e =
      if d.conditionOf d.trig.entries[e] && d.trig.entries[e].enabled && decide (d.trig.entries[e].status = .idle) then
        (d.setEntry e { d.trig.entries[e] with edgeRef := d.conditionOf d.trig.entries[e] }).fire e
      else d.setEntry e { d.trig.entries[e] with edgeRef := d.conditionOf d.trig.entries[e] } := if_neg h

/-! #### The targets of a firing (R92) -/

theorem targetLines_pairwise (d : Device) (en : TriggerEntry) : (d.targetLines en).Pairwise (· < ·) := by
  unfold Device.targetLines
  split
  · exact List.Pairwise.nil
  · exact all16_pairwise.filter _
  all_goals
    split
    · split
      · exact List.pairwise_singleton _ _
      all_goals exact List.Pairwise.nil
    · exact all16_pairwise.filter _
    · exact all16_pairwise.filter _

section
variable {d : Device} {en : TriggerEntry} {i : LineId}

theorem mem_targetLines_of_stopAll (h : en.action = .stopAll) : i ∈ d.targetLines en ↔ d.lines[i].binding ≠ none := by
  simp only [Device.targetLines, h, Device.assignedLines, List.mem_filter]
  rw [assigned_iff]
  exact and_iff_right (mem_all16 i)

theorem mem_targetLines_of_sourceLine (h : en.action = .hold ∨ en.action = .slacken ∨ en.action = .release)
    (ht : en.target = .sourceLine) : i ∈ d.targetLines en ↔ en.source = .lineCritical i := by
  obtain h | h | h := h <;> simp only [Device.targetLines, h, ht] <;> cases en.source <;> simp [eq_comm]

theorem mem_targetLines_of_lineSet {x : LineSet} (h : en.action = .hold ∨ en.action = .slacken ∨ en.action = .release)
    (ht : en.target = .lineSet x) : i ∈ d.targetLines en ↔ inSet x i = true := by
  have hlines : d.targetLines en = all16.filter fun i => inSet x i := by
    obtain h | h | h := h <;> simp only [Device.targetLines, h, ht]
  rw [hlines, List.mem_filter]
  exact and_iff_right (mem_all16 i)

theorem mem_targetLines_of_group {g : GroupId} (h : en.action = .hold ∨ en.action = .slacken ∨ en.action = .release)
    (ht : en.target = .group g) :
    i ∈ d.targetLines en ↔ ∃ b : Binding, d.lines[i].binding = some b ∧ b.group = g := by
  have hlines : d.targetLines en = all16.filter fun i => d.lines[i].inGroup g := by
    obtain h | h | h := h <;> simp only [Device.targetLines, h, ht]
  rw [hlines, List.mem_filter, LineRecord.inGroup_iff]
  exact and_iff_right (mem_all16 i)

end

theorem StationRecord.available_iff (r : StationRecord) : r.available = true ↔
    r.presence = .present ∧ r.enabled = true ∧ r.parked = false ∧ r.power = .on := by
  simp only [StationRecord.available, Bool.and_eq_true, decide_eq_true_eq, Bool.not_eq_true', and_assoc]

theorem eligible_iff (d : Device) (i : LineId) : d.eligible i = true ↔ ∃ b : Binding, d.lines[i].binding = some b ∧
    d.stations[b.station].presence = .present ∧ d.stations[b.station].enabled = true ∧
    d.stations[b.station].parked = false ∧ d.stations[b.station].power = .on := by
  cases hb : d.lines[i].binding with
  | none =>
    have hnot : d.eligible i = false := by simp only [Device.eligible, hb]
    rw [hnot]
    exact ⟨fun h => absurd h Bool.false_ne_true, fun ⟨b, hb', _⟩ => absurd hb' (Option.some_ne_none b).symm⟩
  | some b =>
    rw [eligible_of_binding hb, StationRecord.available_iff]
    simp only [Option.some.injEq, exists_eq_left']

/-- The class of a target that has frames (R92). -/
theorem classify_state {d : Device} {a : TriggerAction} {i : LineId} (h : a ≠ .stopAll) : (d.classify a i).state =
    if d.eligible i = true then classOfState a d.lines[i].state else .failed := if_neg h

/-! #### The effects of a firing (R22, R93) -/

section
variable {d : Device} {y : Target}

theorem setLine_of_state {i : LineId} {x : LineState} (h : d.lines[i].state = x) :
    d.setLine i { d.lines[i] with state := x } = d := by
  subst h
  rw [Device.setLine]
  show { d with lines := put d.lines i d.lines[i] } = d
  rw [put_self]

theorem targetEffect_of_closed (h : y.state ≠ .waiting) :
    d.targetEffect .hold y = d ∧ d.targetEffect .release y = d := ⟨if_neg h, if_neg h⟩

theorem targetEffect_hold_of_locked (h : y.state = .waiting) (hx : d.lines[y.line].state = .locked) :
    d.targetEffect .hold y = d := by
  unfold Device.targetEffect
  simp only [h, hx, LineState.held, if_true, reduceCtorEq, if_false]

theorem targetEffect_hold_of_tending (h : y.state = .waiting) (hx : d.lines[y.line].state = .tending) :
    d.targetEffect .hold y = (d.setLine y.line { d.lines[y.line] with state := .locked }).removeTend y.line := by
  rw [← setState_of_leaving hx LineState.noConfusion]
  unfold Device.targetEffect
  simp only [h, hx, LineState.held, if_true]

theorem targetEffect_hold_of_moving (h : y.state = .waiting) (hx : d.lines[y.line].state = .runningOut ∨
    d.lines[y.line].state = .locking ∨ d.lines[y.line].state = .rewinding) : d.targetEffect .hold y =
      (d.setLine y.line { d.lines[y.line] with resync := true }).endLiveSlot y.line .preempted := by
  have heffect : d.targetEffect .hold y = (d.setResync y.line).endLiveSlot y.line .preempted := by
    unfold Device.targetEffect
    obtain hx | hx | hx := hx <;> simp only [h, hx, LineState.held, if_true, Bool.false_eq_true, if_false]
  exact heffect

/-- The part with the target's line in RELEASING (R93). -/
def Device.released (d : Device) (i : LineId) : Device :=
  if d.lines[i].state = .tending then (d.setLine i { d.lines[i] with state := .releasing }).removeTend i
  else d.setLine i { d.lines[i] with state := .releasing }

theorem released_eq (d : Device) (i : LineId) :
    (if d.lines[i].state = .releasing then d else d.setState i .releasing) = d.released i := by
  unfold Device.released
  by_cases htending : d.lines[i].state = .tending
  case pos =>
    have hnot : d.lines[i].state ≠ .releasing := fun h => LineState.noConfusion (h.symm.trans htending)
    rw [if_neg hnot, if_pos htending, setState_of_leaving htending LineState.noConfusion]
  case neg =>
    rw [if_neg htending]
    by_cases hreleasing : d.lines[i].state = .releasing
    case pos => rw [if_pos hreleasing, setLine_of_state hreleasing]
    case neg => rw [if_neg hreleasing, setState_of_not_leaving (.inl htending)]

theorem released_bridge (d : Device) (i : LineId) : (d.released i).bridge = d.bridge := by
  unfold Device.released
  split
  · rw [removeTend_eq]
    rfl
  · rfl

theorem liveSlot_congr {d d' : Device} (i : LineId) (h : d'.bridge = d.bridge) : d'.liveSlot i = d.liveSlot i := by
  unfold Device.liveSlot
  rw [h]

theorem targetEffect_release_of_none (h : y.state = .waiting) (hlive : d.liveSlot y.line = none) :
    d.targetEffect .release y = d.released y.line := by
  have hlive' := (liveSlot_congr y.line (released_bridge d y.line)).trans hlive
  unfold Device.targetEffect
  simp only [h, if_true, released_eq, hlive']

theorem targetEffect_release_of_some {k : SlotId} {c : SlotCommand} (h : y.state = .waiting)
    (hlive : d.liveSlot y.line = some k) (hc : d.bridge.slots[k].command = some c) : d.targetEffect .release y =
      if c.verb = .release then d.released y.line else (d.released y.line).endSlot k .preempted := by
  have hlive' := (liveSlot_congr y.line (released_bridge d y.line)).trans hlive
  have hc' : (d.released y.line).bridge.slots[k].command = some c := by rw [released_bridge, hc]
  unfold Device.targetEffect
  simp only [h, if_true, released_eq, hlive', hc']

theorem targetEffect_stopAll_of_tending (hx : d.lines[y.line].state = .tending) :
    d.targetEffect .stopAll y = (d.setLine y.line { d.lines[y.line] with state := .locked }).removeTend y.line := by
  rw [← setState_of_leaving hx LineState.noConfusion]
  exact if_pos hx

theorem targetEffect_stopAll_of_moving (hx : d.lines[y.line].state.moving = true) :
    d.targetEffect .stopAll y = d.setLine y.line { d.lines[y.line] with resync := true } := by
  have hnot : d.lines[y.line].state ≠ .tending := fun h => by
    rw [h] at hx
    exact Bool.false_ne_true hx
  exact (if_neg hnot).trans (if_pos hx)

theorem targetEffect_stopAll_of_other (hx : d.lines[y.line].state.moving = false)
    (hnot : d.lines[y.line].state ≠ .tending) : d.targetEffect .stopAll y = d :=
  (if_neg hnot).trans (if_neg (Bool.eq_false_iff.mp hx))

end

/-! #### A delivery (R98) and a firing (R91) -/

theorem deliver_eq (d : Device) (r : ActionRecord) : d.deliver r =
    ((({ d with trig := { d.trig with
        actions := d.trig.actions.filter fun (x : ActionRecord) => decide (x.entry ≠ r.entry) } } : Device).queueEvent
      (.triggerDelivered r.entry r.action (r.count .succeeded) (r.count .failed))).setEntry r.entry
        { d.trig.entries[r.entry] with
          succeeded := r.count .succeeded, failed := r.count .failed
          status := d.trig.entries[r.entry].restStatus }).reformAlm := by
  refine congrArg Device.reformAlm ?_
  have hput := put_put d.trig.entries r.entry
    { d.trig.entries[r.entry] with succeeded := r.count .succeeded, failed := r.count .failed }
    { d.trig.entries[r.entry] with
      succeeded := r.count .succeeded, failed := r.count .failed, status := d.trig.entries[r.entry].restStatus }
  exact congrArg (fun v => ({ (({ d with trig := { d.trig with
      actions := d.trig.actions.filter fun (x : ActionRecord) => decide (x.entry ≠ r.entry) } } : Device).queueEvent
    (.triggerDelivered r.entry r.action (r.count .succeeded) (r.count .failed))) with
      trig := { d.trig with
        entries := v
        actions := d.trig.actions.filter fun (x : ActionRecord) => decide (x.entry ≠ r.entry) } } : Device)) hput

theorem TargetState.ended_iff (x : TargetState) : x.ended = true ↔ x = .succeeded ∨ x = .failed := by
  cases x <;> decide

theorem ActionRecord.complete_iff (r : ActionRecord) : r.complete = true ↔
    r.action ≠ .stopAll ∧ ∀ y ∈ r.targets, y.state = .succeeded ∨ y.state = .failed := by
  simp only [ActionRecord.complete, Bool.and_eq_true, decide_eq_true_eq, List.all_eq_true, TargetState.ended_iff]

theorem deliverComplete_eq (d : Device) : d.deliverComplete = (d.trig.actions.filter fun (r : ActionRecord) =>
    decide (r.action ≠ .stopAll ∧ ∀ y ∈ r.targets, y.state = .succeeded ∨ y.state = .failed)).foldl
      Device.deliver d := by
  refine congrArg (fun l : List ActionRecord => l.foldl Device.deliver d) (List.filter_congr fun r _ => ?_)
  rw [Bool.eq_iff_iff, ActionRecord.complete_iff, decide_eq_true_iff]

/-- The record of a firing. -/
def Device.firedRecord (d : Device) (e : EntryId) : ActionRecord :=
  { entry := e, action := d.trig.entries[e].action
    targets := (d.targetLines d.trig.entries[e]).map (d.classify d.trig.entries[e].action) }

/-- The part after a firing with targets, before its delivery (R91). -/
def Device.fired (d : Device) (e : EntryId) : Device :=
  let en := d.trig.entries[e]
  let ts := (d.targetLines en).map (d.classify en.action)
  let d' := (d.queueEvent (.triggerFired e en.source en.action ts.length)).setEntry e { en with status := .pending }
  let d' := { d' with trig := { d'.trig with actions := d.trig.actions ++ [d.firedRecord e] } }
  (d'.firingEffects en.action ts).reformAlm

theorem fire_of_report {d : Device} {e : EntryId} (h : d.trig.entries[e].action = .report) : d.fire e =
    ((d.queueEvent (.triggerFired e d.trig.entries[e].source .report 0)).setEntry e { d.trig.entries[e] with
      succeeded := 0, failed := 0, status := d.trig.entries[e].restStatus }).reformAlm := by
  have hlines : (d.targetLines d.trig.entries[e]).length = 0 := by
    simp only [Device.targetLines, h, List.length_nil]
  have hfire : d.fire e = ((d.queueEvent (.triggerFired e d.trig.entries[e].source d.trig.entries[e].action
      (d.targetLines d.trig.entries[e]).length)).setEntry e { d.trig.entries[e] with
        succeeded := 0, failed := 0, status := d.trig.entries[e].restStatus }).reformAlm := if_pos h
  rw [hfire, hlines, h]

theorem fire_of_targets {d : Device} {e : EntryId} (h : d.trig.entries[e].action ≠ .report) : d.fire e =
    if (d.firedRecord e).complete then (d.fired e).deliver (d.firedRecord e) else d.fired e := by
  unfold Device.fired
  dsimp only
  rw [List.length_map]
  exact if_neg h

end Sys2Proof.Machine

/-! ### Entries take their conditions, together (O54) -/

namespace Sys2Proof.Machine

theorem classOfState_of_open {a : TriggerAction} (h : a = .hold ∨ a = .slacken ∨ a = .release) (x : LineState) :
    (x = .stowed ∨ x = .ready ∨ x = .fault → classOfState a x = .failed) ∧
      (x = .locked ∨ x = .tending → classOfState a x = .waiting) ∧
      (x = .runningOut ∨ x = .locking ∨ x = .rewinding →
        classOfState a x = if a = .slacken then .succeeded else .waiting) ∧
      (x = .releasing → classOfState a x = if a = .release then .waiting else .succeeded) ∧
      (x = .released → classOfState a x = .succeeded) := by
  obtain rfl | rfl | rfl := h <;> cases x <;> decide

theorem ne_stopAll_of_frames {a : TriggerAction} (h : a = .hold ∨ a = .slacken ∨ a = .release) : a ≠ .stopAll := by
  obtain rfl | rfl | rfl := h <;> exact TriggerAction.noConfusion

theorem firingEffects_of_frames {d : Device} {a : TriggerAction} (ts : List Target) (h : a ≠ .stopAll) :
    d.firingEffects a ts = ts.foldl (Device.targetEffect a) d := if_neg h

/-- Settles O54. -/
theorem entriesTakeTheirConditions : Obligations.EntriesTakeTheirConditions := by
  unfold Obligations.EntriesTakeTheirConditions
  refine ⟨?sources, fun d => ⟨rfl, rfl⟩, ?change, ?report, ?fire, fun e src a n ok bad => ⟨rfl, rfl⟩, ?targets, eligible_iff,
    ?classes, ?effects, ?targetEffects, ?slots, deliver_eq, deliverComplete_eq⟩
  case sources =>
    intro d en
    exact ⟨fun i => conditionOf_lineCritical, fun g => conditionOf_groupAlarm, fun n => conditionOf_input,
      conditionOf_hostSilent, fun st => conditionOf_stationLost, conditionOf_software⟩
  case change =>
    intro d e en now
    refine ⟨takeCondition_of_same, fun hnow href henabled hidle => ?_, fun hchange hnot => ?_⟩
    · have hchange : d.conditionOf d.trig.entries[e] ≠ d.trig.entries[e].edgeRef := by
        rw [show d.conditionOf d.trig.entries[e] = true from hnow, show d.trig.entries[e].edgeRef = false from href]
        exact Bool.true_eq_false.mp
      have hfires : (d.conditionOf d.trig.entries[e] && d.trig.entries[e].enabled &&
          decide (d.trig.entries[e].status = .idle)) = true := by
        rw [Bool.and_eq_true, Bool.and_eq_true, decide_eq_true_iff]
        exact ⟨⟨hnow, henabled⟩, hidle⟩
      rw [takeCondition_of_change hchange, if_pos hfires]
      exact congrArg (fun b => (d.setEntry e { d.trig.entries[e] with edgeRef := b }).fire e) hnow
    · refine (takeCondition_of_change hchange).trans (if_neg ?_)
      rw [Bool.and_eq_true, Bool.and_eq_true, decide_eq_true_iff]
      rintro ⟨⟨hnow, henabled⟩, hidle⟩
      obtain h | h | h := hnot
      · exact Bool.false_ne_true (h.symm.trans hnow)
      · exact Bool.false_ne_true (h.symm.trans henabled)
      · exact h hidle
  case report => exact fun d e h => fire_of_report h
  case fire =>
    intro d e haction en ts r d₁ d₂ d₃
    have hfire := fire_of_targets haction
    refine ⟨fun hframes hended => hfire.trans (if_pos ?_), fun hwaits => hfire.trans (if_neg ?_)⟩
    · exact (ActionRecord.complete_iff _).mpr ⟨hframes, hended⟩
    · rw [ActionRecord.complete_iff]
      rintro ⟨hframes, hended⟩
      obtain hstopAll | ⟨y, hy, hnot⟩ := hwaits
      · exact hframes hstopAll
      · exact (hended y hy).elim hnot.1 hnot.2
  case targets =>
    intro d en i
    exact ⟨targetLines_pairwise d en, mem_targetLines_of_stopAll, fun h => ⟨mem_targetLines_of_sourceLine h,
      fun s => mem_targetLines_of_lineSet h, fun g => mem_targetLines_of_group h⟩⟩
  case classes =>
    intro d a i x
    refine ⟨rfl, fun h => ?_⟩
    have hstate := classify_state (d := d) (i := i) (ne_stopAll_of_frames h)
    obtain ⟨hsafe, hheld, hmoving, hreleasing, hreleased⟩ := classOfState_of_open h x
    refine ⟨rfl, rfl, rfl, fun hnot => ?_, fun hx => ?_, fun heligible => ?_⟩
    · rw [hstate, if_neg (Bool.eq_false_iff.mp hnot)]
    · rw [hstate]
      split
      · exact hsafe hx
      · rfl
    · rw [if_pos heligible] at hstate
      rw [hstate]
      exact ⟨hheld, hmoving, hreleasing, hreleased⟩
  case effects => exact fun d a ts => ⟨firingEffects_of_frames ts, rfl⟩
  case targetEffects =>
    intro d y i x
    refine ⟨rfl, rfl, targetEffect_of_closed, fun hwaiting => ?_, targetEffect_stopAll_of_tending, fun hx => ?_,
      fun hx => ?_⟩
    · exact ⟨targetEffect_hold_of_locked hwaiting, targetEffect_hold_of_tending hwaiting,
        targetEffect_hold_of_moving hwaiting, targetEffect_release_of_none hwaiting,
        fun k c => targetEffect_release_of_some hwaiting⟩
    · exact targetEffect_stopAll_of_moving ((LineState.moving_iff _).mpr hx)
    · have hx' : d.lines[y.line].state.moving = false ∧ d.lines[y.line].state ≠ .tending := by
        show x.moving = false ∧ x ≠ .tending
        obtain hx | hx | hx | hx | hx | hx := hx <;> rw [hx] <;> decide
      exact targetEffect_stopAll_of_other hx'.1 hx'.2
  case slots =>
    intro d p res k t
    exact ⟨fun hp hlive hc => endSlotsWhere_slot_ended res hp ⟨hlive, hc⟩, endSlotsWhere_slot_other res⟩

end Sys2Proof.Machine

/-! ### What the firings of an occurrence leave alone (for O59) -/

namespace Sys2Proof.Machine

theorem queueEvents_append (d : Device) (es es' : List Event) :
    d.queueEvents (es ++ es') = (d.queueEvents es).queueEvents es' := List.foldl_append

/-- A line that no firing touches: in FAULT, its station not available, and with no live slot. -/
structure Device.AtRest (d : Device) (i : LineId) : Prop where
  state : d.lines[i].state = .fault
  eligible : d.eligible i = false
  slots (k : SlotId) (h : d.bridge.slots[k].live = true) : d.bridge.slots[k].forLine i = false

/-- What the work of the trigger entries may change: lines that are not at rest, slots by ending them, and the
entries' own records and events. -/
structure EntryWork (d e : Device) : Prop where
  work : Work d e
  tend : ∀ y ∈ e.tend, y ∈ d.tend
  timers : e.trig.releaseTimers = d.trig.releaseTimers
  slots (k : SlotId) : e.bridge.slots[k] = d.bridge.slots[k] ∨
    (d.bridge.slots[k].live = true ∧ e.bridge.slots[k].live = false)
  lines (i : LineId) (h : d.AtRest i) : e.lines[i] = d.lines[i]
  actions : ∀ r ∈ e.trig.actions, r ∈ d.trig.actions ∨
    ∀ y ∈ r.targets, d.eligible y.line = false → y.open_ = false
  quay : ∃ es : List Event, (∀ x ∈ es, x.ofEntries = true) ∧ e.quay = (d.queueEvents es).quay

theorem Work.binding {d e : Device} (h : Work d e) (i : LineId) : e.lines[i].binding = d.lines[i].binding := by
  have hkept := congrArg LineRecord.binding (h.lines i)
  exact hkept

theorem Work.eligible {d e : Device} (h : Work d e) (i : LineId) : e.eligible i = d.eligible i := by
  unfold Device.eligible
  rw [h.binding, h.stations]

theorem EntryWork.refl (d : Device) : EntryWork d d where
  work := Work.refl d
  tend _ h := h
  timers := rfl
  slots _ := .inl rfl
  lines _ _ := rfl
  actions _ h := .inl h
  quay := ⟨[], fun _ h => absurd h List.not_mem_nil, rfl⟩

theorem EntryWork.atRest {d e : Device} (h : EntryWork d e) {i : LineId} (hi : d.AtRest i) : e.AtRest i where
  state := by rw [h.lines i hi, hi.state]
  eligible := by rw [h.work.eligible, hi.eligible]
  slots k hk := by
    obtain hsame | ⟨-, hdead⟩ := h.slots k
    · rw [hsame] at hk ⊢
      exact hi.slots k hk
    · exact absurd (hk.symm.trans hdead) Bool.true_eq_false.mp

theorem EntryWork.trans {a b c : Device} (h : EntryWork a b) (k : EntryWork b c) : EntryWork a c where
  work := h.work.trans k.work
  tend y hy := h.tend y (k.tend y hy)
  timers := k.timers.trans h.timers
  slots n := by
    obtain hsame | ⟨hlive, hdead⟩ := k.slots n
    · rw [hsame]
      exact h.slots n
    · obtain hsame' | ⟨hlive', hdead'⟩ := h.slots n
      · rw [hsame'] at hlive
        exact .inr ⟨hlive, hdead⟩
      · exact .inr ⟨hlive', hdead⟩
  lines i hi := (k.lines i (h.atRest hi)).trans (h.lines i hi)
  actions r hr := by
    obtain hold | hnew := k.actions r hr
    · exact h.actions r hold
    · exact .inr fun y hy hnot => hnew y hy ((h.work.eligible y.line).trans hnot)
  quay := by
    obtain ⟨es, hes, hquay⟩ := h.quay
    obtain ⟨es', hes', hquay'⟩ := k.quay
    refine ⟨es ++ es', fun x hx => (List.mem_append.mp hx).elim (hes x) (hes' x), ?_⟩
    rw [hquay', queueEvents_append]
    exact queueEvents_quay_congr hquay es'

theorem EntryWork.foldl {α : Type} (f : Device → α → Device) (hf : ∀ d x, EntryWork d (f d x)) (l : List α)
    (d : Device) : EntryWork d (l.foldl f d) := by
  induction l generalizing d with
  | nil => exact EntryWork.refl d
  | cons x xs ih => exact (hf d x).trans (ih _)

/-! #### The plain writes -/

/-- A write of the trigger unit that leaves its release timers, its inputs and its lost stations, and adds no action. -/
theorem entryWork_of_trig {d : Device} (u : TriggerUnit) (htimers : u.releaseTimers = d.trig.releaseTimers)
    (hinputs : u.inputs = d.trig.inputs) (hlost : u.stationLost = d.trig.stationLost)
    (hactions : ∀ r ∈ u.actions, r ∈ d.trig.actions ∨ ∀ y ∈ r.targets, d.eligible y.line = false → y.open_ = false) :
    EntryWork d { d with trig := u } where
  work := ⟨fun _ => rfl, rfl, rfl, rfl, hinputs, hlost, rfl, rfl, rfl, rfl, QuayKept.rfl' _⟩
  tend _ h := h
  timers := htimers
  slots _ := .inl rfl
  lines _ _ := rfl
  actions := hactions
  quay := ⟨[], fun _ h => absurd h List.not_mem_nil, rfl⟩

theorem setEntry_entryWork (d : Device) (e : EntryId) (x : TriggerEntry) : EntryWork d (d.setEntry e x) :=
  entryWork_of_trig _ rfl rfl rfl fun _ h => .inl h

theorem reformAlm_entryWork (d : Device) : EntryWork d d.reformAlm := entryWork_of_trig _ rfl rfl rfl fun _ h => .inl h

theorem queueEvent_entryWork (d : Device) {e : Event} (h : e.ofEntries = true) : EntryWork d (d.queueEvent e) where
  work := queueEvent_work d e
  tend _ h := h
  timers := rfl
  slots _ := .inl rfl
  lines _ _ := rfl
  actions _ h := .inl h
  quay := by
    refine ⟨[e], fun x hx => ?_, rfl⟩
    rw [List.mem_singleton.mp hx]
    exact h

/-! #### The end of a slot -/

theorem entryWork_of_endKept {d e : Device} (hwork : Work d e) (h : EndKept d e)
    (hslots : ∀ k : SlotId, e.bridge.slots[k] = d.bridge.slots[k] ∨
      (d.bridge.slots[k].live = true ∧ e.bridge.slots[k].live = false))
    (hlines : ∀ i : LineId, d.AtRest i → e.lines[i] = d.lines[i]) (hquay : e.quay = d.quay) : EntryWork d e where
  work := hwork
  tend := h.tend
  timers := by rw [h.trig]
  slots := hslots
  lines := hlines
  actions r hr := by
    rw [h.trig] at hr
    exact .inl hr
  quay := ⟨[], fun _ h => absurd h List.not_mem_nil, hquay⟩

theorem endSlot_entryWork (d : Device) (k : SlotId) : EntryWork d (d.endSlot k .preempted) := by
  refine entryWork_of_endKept (endSlot_work d k _) (endSlot_endKept d k _) (fun j => ?_)
    (fun i hi => endSlot_line_other _ (hi.slots k)) (endSlot_quay_of_not_failure d k rfl)
  by_cases hjk : j = k
  case neg => exact .inl (endSlot_slot_other d _ hjk)
  case pos =>
    subst hjk
    by_cases hend : d.bridge.slots[j].endable
    case neg => exact .inl (by rw [endSlot_of_not_endable _ hend])
    case pos =>
      rw [endSlot_slot_self _ hend]
      exact .inr ⟨hend.1, rfl⟩

theorem endLiveSlot_entryWork (d : Device) (i : LineId) : EntryWork d (d.endLiveSlot i .preempted) := by
  unfold Device.endLiveSlot
  split
  · exact endSlot_entryWork d _
  · exact EntryWork.refl d

theorem endSlotsWhere_entryWork (d : Device) (p : Slot → Bool) : EntryWork d (d.endSlotsWhere p .preempted) :=
  EntryWork.foldl _ endSlot_entryWork _ d

/-- A write of a line that is not at rest. -/
theorem lineWritten_entryWork {d e : Device} {i : LineId} {r : LineRecord} (hwork : Work d e) (h : EndKept d e)
    (hwritten : LineWritten d i r d.quay e) (hi : ¬ d.AtRest i) : EntryWork d e := by
  refine entryWork_of_endKept hwork h (fun k => .inl ?_) (fun j hj => ?_) hwritten.quay
  · rw [hwritten.bridge]
  · exact hwritten.other fun he => hi (he ▸ hj)

theorem setState_entryWork {d : Device} {i : LineId} (x : LineState) (hi : ¬ d.AtRest i) :
    EntryWork d (d.setState i x) :=
  lineWritten_entryWork (setState_work d i x) (setState_endKept d i x) (setState_written d i x) hi

theorem setResync_entryWork {d : Device} {i : LineId} (hi : ¬ d.AtRest i) : EntryWork d (d.setResync i) :=
  lineWritten_entryWork (setResync_work d i) (updLine_endKept d i _) (setResync_written d i) hi

/-! #### A firing and a delivery (R91, R93, R98) -/

theorem not_atRest_of_eligible {d : Device} {i : LineId} (h : d.eligible i = true) : ¬ d.AtRest i := fun hi =>
  Bool.false_ne_true (hi.eligible.symm.trans h)

theorem not_atRest_of_state {d : Device} {i : LineId} (h : d.lines[i].state ≠ .fault) : ¬ d.AtRest i := fun hi =>
  h hi.state

/-- A target that waits is of an available station. -/
theorem targetEffect_entryWork {a : TriggerAction} {d : Device} {y : Target}
    (h : y.state = .waiting → d.eligible y.line = true) : EntryWork d (d.targetEffect a y) := by
  unfold Device.targetEffect
  cases a with
  | slacken => exact EntryWork.refl d
  | report => exact EntryWork.refl d
  | hold =>
    dsimp only
    split
    next hwaiting =>
      have hrest := not_atRest_of_eligible (h hwaiting)
      split
      · split
        · exact setState_entryWork _ hrest
        · exact EntryWork.refl d
      · exact (setResync_entryWork hrest).trans (endLiveSlot_entryWork _ _)
    next => exact EntryWork.refl d
  | release =>
    dsimp only
    split
    next hwaiting =>
      have hrest := not_atRest_of_eligible (h hwaiting)
      have hreleasing : EntryWork d
          (if d.lines[y.line].state = .releasing then d else d.setState y.line .releasing) := by
        split
        · exact EntryWork.refl d
        · exact setState_entryWork _ hrest
      split
      · split
        · split
          · exact hreleasing
          · exact hreleasing.trans (endSlot_entryWork _ _)
        · exact hreleasing
      · exact hreleasing
    next => exact EntryWork.refl d
  | stopAll =>
    dsimp only
    split
    next htending =>
      exact setState_entryWork _ (not_atRest_of_state fun hf => LineState.noConfusion (hf.symm.trans htending))
    next =>
      split
      next hmoving =>
        refine setResync_entryWork (not_atRest_of_state fun hf => ?_)
        rw [hf] at hmoving
        exact Bool.false_ne_true hmoving
      next => exact EntryWork.refl d

theorem targetEffects_entryWork {a : TriggerAction} (ts : List Target) {d : Device}
    (h : ∀ y ∈ ts, y.state = .waiting → d.eligible y.line = true) :
    EntryWork d (ts.foldl (Device.targetEffect a) d) := by
  induction ts generalizing d with
  | nil => exact EntryWork.refl d
  | cons y ts ih =>
    have hfirst : EntryWork d (d.targetEffect a y) := targetEffect_entryWork (h y List.mem_cons_self)
    refine hfirst.trans (ih fun x hx hwaiting => ?_)
    rw [hfirst.work.eligible]
    exact h x (List.mem_cons_of_mem y hx) hwaiting

theorem firingEffects_entryWork {d : Device} {a : TriggerAction} {ts : List Target}
    (h : ∀ y ∈ ts, y.state = .waiting → d.eligible y.line = true) : EntryWork d (d.firingEffects a ts) := by
  have heffects := targetEffects_entryWork (a := a) ts h
  unfold Device.firingEffects
  dsimp only
  split
  · exact heffects.trans (endSlotsWhere_entryWork _ _)
  · exact heffects

theorem deliver_entryWork (d : Device) (r : ActionRecord) : EntryWork d (d.deliver r) := by
  rw [deliver_eq]
  have hactions : EntryWork d { d with trig := { d.trig with
      actions := d.trig.actions.filter fun (x : ActionRecord) => decide (x.entry ≠ r.entry) } } :=
    entryWork_of_trig _ rfl rfl rfl fun x hx => .inl (List.mem_of_mem_filter hx)
  exact ((hactions.trans (queueEvent_entryWork _ rfl)).trans (setEntry_entryWork _ _ _)).trans (reformAlm_entryWork _)

/-- Targets are classed so that those of a station that is not available are not open (R92). -/
theorem classify_open {d : Device} {a : TriggerAction} {i : LineId} (h : d.eligible i = false) :
    (d.classify a i).open_ = false := by
  by_cases hstop : a = .stopAll
  case pos =>
    subst hstop
    rfl
  case neg =>
    rw [Target.open_, classify_state hstop, if_neg (Bool.eq_false_iff.mp h)]
    rfl

theorem classify_waiting {d : Device} {a : TriggerAction} {i : LineId} (h : (d.classify a i).state = .waiting) :
    d.eligible i = true := by
  by_contra hnot
  have hclosed := classify_open (a := a) (Bool.eq_false_of_not_eq_true hnot)
  rw [Target.open_, h] at hclosed
  exact Bool.true_eq_false.mp hclosed

theorem fired_entryWork (d : Device) (e : EntryId) : EntryWork d (d.fired e) := by
  unfold Device.fired
  dsimp only
  refine EntryWork.trans ?_ (reformAlm_entryWork _)
  have hqueued := (queueEvent_entryWork d (e := .triggerFired e d.trig.entries[e].source d.trig.entries[e].action
    ((d.targetLines d.trig.entries[e]).map (d.classify d.trig.entries[e].action)).length) rfl).trans
      (setEntry_entryWork _ e { d.trig.entries[e] with status := .pending })
  have hplaced := hqueued.trans (entryWork_of_trig { d.trig with
      entries := put d.trig.entries e { d.trig.entries[e] with status := .pending }
      actions := d.trig.actions ++ [d.firedRecord e] } rfl rfl rfl fun r hr => by
    obtain hold | hnew := List.mem_append.mp hr
    · exact .inl hold
    · rw [List.mem_singleton.mp hnew]
      refine .inr fun y hy hnot => ?_
      obtain ⟨i, -, rfl⟩ := List.mem_map.mp hy
      exact classify_open hnot)
  refine hplaced.trans (firingEffects_entryWork fun y hy hwaiting => ?_)
  obtain ⟨i, -, rfl⟩ := List.mem_map.mp hy
  rw [hplaced.work.eligible]
  exact classify_waiting hwaiting

theorem fire_entryWork (d : Device) (e : EntryId) : EntryWork d (d.fire e) := by
  by_cases haction : d.trig.entries[e].action = .report
  case pos =>
    rw [fire_of_report haction]
    exact ((queueEvent_entryWork d rfl).trans (setEntry_entryWork _ e _)).trans (reformAlm_entryWork _)
  case neg =>
    rw [fire_of_targets haction]
    split
    · exact (fired_entryWork d e).trans (deliver_entryWork _ _)
    · exact fired_entryWork d e

theorem takeCondition_entryWork (d : Device) (e : EntryId) : EntryWork d (d.takeCondition e) := by
  by_cases hsame : d.conditionOf d.trig.entries[e] = d.trig.entries[e].edgeRef
  case pos =>
    rw [takeCondition_of_same hsame]
    exact EntryWork.refl d
  case neg =>
    rw [takeCondition_of_change hsame]
    split
    · exact (setEntry_entryWork d e _).trans (fire_entryWork _ e)
    · exact setEntry_entryWork d e _

theorem takeConditions_entryWork (d : Device) : EntryWork d d.takeConditions :=
  EntryWork.foldl _ takeCondition_entryWork _ d

end Sys2Proof.Machine

/-! ### Targets of a lost station (R97, R98; for O34 and O59) -/

namespace Sys2Proof.Machine

/-! #### Deliveries -/

/-- `e` is `d` after deliveries: entries, records and ALM of the trigger unit, and events of deliveries. -/
structure Delivered (d e : Device) : Prop where
  rest : e = { d with
    trig := { d.trig with entries := e.trig.entries, actions := e.trig.actions, alm := e.trig.alm }, quay := e.quay }
  actions : ∀ r ∈ e.trig.actions, r ∈ d.trig.actions
  quay : ∃ es : List Event, (∀ x ∈ es, x.isDelivery = true) ∧ e.quay = (d.queueEvents es).quay

theorem Delivered.refl (d : Device) : Delivered d d :=
  ⟨rfl, fun _ h => h, [], fun _ h => absurd h List.not_mem_nil, rfl⟩

theorem Delivered.trans {a b c : Device} (h : Delivered a b) (k : Delivered b c) : Delivered a c where
  rest := by rw [k.rest, h.rest]
  actions r hr := h.actions r (k.actions r hr)
  quay := by
    obtain ⟨es, hes, hquay⟩ := h.quay
    obtain ⟨es', hes', hquay'⟩ := k.quay
    refine ⟨es ++ es', fun x hx => (List.mem_append.mp hx).elim (hes x) (hes' x), ?_⟩
    rw [hquay', queueEvents_append]
    exact queueEvents_quay_congr hquay es'

theorem deliver_delivered (d : Device) (r : ActionRecord) : Delivered d (d.deliver r) := by
  rw [deliver_eq]
  refine ⟨rfl, fun x hx => List.mem_of_mem_filter hx, ?_⟩
  refine ⟨[.triggerDelivered r.entry r.action (r.count .succeeded) (r.count .failed)], fun x hx => ?_, rfl⟩
  rw [List.mem_singleton.mp hx]
  rfl

theorem deliverComplete_delivered (d : Device) : Delivered d d.deliverComplete := by
  have hfold (l : List ActionRecord) (d : Device) : Delivered d (l.foldl Device.deliver d) := by
    induction l generalizing d with
    | nil => exact Delivered.refl d
    | cons r l ih => exact (deliver_delivered d r).trans (ih _)
  exact hfold _ d

/-! #### Targets failed from outside -/

/-- Whether a target is one of those named, each with its entry. -/
def namedIn (ps : List (EntryId × Target)) (e : EntryId) (i : LineId) : Bool :=
  ps.any fun p => decide (e = p.1 ∧ i = p.2.line)

/-- The record with its named targets failed. -/
def ActionRecord.failNamed (ps : List (EntryId × Target)) (r : ActionRecord) : ActionRecord :=
  { r with targets := r.targets.map fun t => if namedIn ps r.entry t.line then { t with state := .failed } else t }

/-- The record with the target of one name failed. -/
def ActionRecord.failOne (p : EntryId × Target) (r : ActionRecord) : ActionRecord :=
  if r.entry = p.1 then r.updTarget p.2.line fun t => { t with state := .failed } else r

theorem ActionRecord.failOne_eq (p : EntryId × Target) (r : ActionRecord) : r.failOne p =
    { r with targets := r.targets.map fun t =>
      if r.entry = p.1 ∧ t.line = p.2.line then { t with state := .failed } else t } := by
  unfold ActionRecord.failOne ActionRecord.updTarget
  by_cases h : r.entry = p.1
  case pos => simp only [h, if_true, true_and]
  case neg => simp only [h, if_false, false_and, List.map_id']

theorem failNamed_nil (r : ActionRecord) : r.failNamed [] = r := by
  simp only [ActionRecord.failNamed, namedIn, List.any_nil, Bool.false_eq_true, if_false, List.map_id']

theorem namedIn_cons (p : EntryId × Target) (ps : List (EntryId × Target)) (e : EntryId) (i : LineId) :
    namedIn (p :: ps) e i = true ↔ (e = p.1 ∧ i = p.2.line) ∨ namedIn ps e i = true := by
  rw [namedIn, List.any_cons, Bool.or_eq_true, decide_eq_true_iff]
  rfl

theorem failNamed_failOne (p : EntryId × Target) (ps : List (EntryId × Target)) (r : ActionRecord) :
    (r.failOne p).failNamed ps = r.failNamed (p :: ps) := by
  rw [ActionRecord.failOne_eq]
  unfold ActionRecord.failNamed
  rw [List.map_map]
  refine congrArg (fun l => ({ r with targets := l } : ActionRecord)) (List.map_congr_left fun t _ => ?_)
  rw [Function.comp_apply]
  by_cases hone : r.entry = p.1 ∧ t.line = p.2.line
  case pos =>
    rw [if_pos hone, if_pos ((namedIn_cons p ps r.entry t.line).mpr (.inl hone))]
    exact ite_self _
  case neg =>
    rw [if_neg hone]
    exact if_congr ((namedIn_cons p ps r.entry t.line).trans (or_iff_right hone)).symm rfl rfl

/-- `e` is `d` with the named targets failed and their lines' actions in flight absent (R97). -/
structure TargetsFailed (d e : Device) (ps : List (EntryId × Target)) : Prop where
  rest : e = { d with
    lines := e.lines
    trig := { d.trig with actions := e.trig.actions, releaseTimers := e.trig.releaseTimers }
    bus := { d.bus with exchange := e.bus.exchange }
    scan := { d.scan with followUp := e.scan.followUp } }
  lines (i : LineId) : e.lines[i] = d.lines[i] ∨
    ((∃ p ∈ ps, p.2.line = i) ∧ e.lines[i] = { d.lines[i] with triggerInFlight := none })
  timers (i : LineId) (h : d.trig.releaseTimers[i] = none) : e.trig.releaseTimers[i] = none
  actions : e.trig.actions = d.trig.actions.map (ActionRecord.failNamed ps)

theorem failTarget_failed (d : Device) (p : EntryId × Target) : TargetsFailed d (d.failTarget p) [p] := by
  obtain ⟨x, hx⟩ : ∃ x : Option Exchange, d.failTarget p =
      ({ d with
        trig := { d.trig with actions := d.trig.actions.map (ActionRecord.failOne p) }
        bus := { d.bus with exchange := x } } : Device).clearInFlight p.2.line := by
    unfold Device.failTarget
    dsimp only
    split
    · have hbus : ({ d with trig := { d.trig with actions := d.trig.actions.map (ActionRecord.failOne p) } } :
          Device).detach (.trigger p.1 p.2.line) = { d with
            trig := { d.trig with actions := d.trig.actions.map (ActionRecord.failOne p) }
            bus := { d.bus with exchange := (({ d with trig := { d.trig with
              actions := d.trig.actions.map (ActionRecord.failOne p) } } : Device).detach
                (.trigger p.1 p.2.line)).bus.exchange } } := by
        unfold Device.detach
        split
        · split <;> rfl
        · rfl
      exact ⟨_, congrArg (Device.clearInFlight · p.2.line) hbus⟩
    · exact ⟨d.bus.exchange, rfl⟩
  rw [hx]
  refine ⟨rfl, fun i => ?_, fun i h => ?_, ?_⟩
  · by_cases hi : i = p.2.line
    case pos =>
      subst hi
      exact .inr ⟨⟨p, List.mem_singleton_self p, rfl⟩, put_get_self d.lines p.2.line _⟩
    case neg => exact .inl (put_get_ne d.lines _ hi)
  · refine (put_get d.trig.releaseTimers p.2.line i none).trans ?_
    split
    · rfl
    · exact h
  · refine List.map_congr_left fun r _ => ?_
    rw [← failNamed_failOne, failNamed_nil]

theorem TargetsFailed.cons {a b c : Device} {p : EntryId × Target} {ps : List (EntryId × Target)}
    (h : TargetsFailed a b [p]) (k : TargetsFailed b c ps) : TargetsFailed a c (p :: ps) where
  rest := by rw [k.rest, h.rest]
  lines i := by
    have hcleared : b.lines[i] = { a.lines[i] with triggerInFlight := none } → (∃ q ∈ [p], q.2.line = i) →
        c.lines[i] = { a.lines[i] with triggerInFlight := none } := fun hb _ => by
      obtain hsame | ⟨-, hcleared⟩ := k.lines i
      · rw [hsame, hb]
      · rw [hcleared, hb]
    obtain hsame | ⟨⟨q, hq, hline⟩, hb⟩ := h.lines i
    · obtain hsame' | ⟨⟨q, hq, hline⟩, hcleared'⟩ := k.lines i
      · exact .inl (hsame'.trans hsame)
      · refine .inr ⟨⟨q, List.mem_cons_of_mem p hq, hline⟩, ?_⟩
        rw [hcleared', hsame]
    · refine .inr ⟨⟨q, ?_, hline⟩, hcleared hb ⟨q, hq, hline⟩⟩
      rw [List.mem_singleton.mp hq]
      exact List.mem_cons_self
  timers i hi := k.timers i (h.timers i hi)
  actions := by
    have hone : b.trig.actions = a.trig.actions.map (ActionRecord.failOne p) := by
      rw [h.actions]
      refine List.map_congr_left fun r _ => ?_
      rw [← failNamed_failOne, failNamed_nil]
    rw [k.actions, hone, List.map_map]
    exact List.map_congr_left fun r _ => failNamed_failOne p ps r

theorem failTargets_failed (ps : List (EntryId × Target)) (d : Device) :
    TargetsFailed d (ps.foldl Device.failTarget d) ps := by
  induction ps generalizing d with
  | nil =>
    refine ⟨rfl, fun _ => .inl rfl, fun _ h => h, ?_⟩
    have hid : ActionRecord.failNamed [] = id := funext failNamed_nil
    rw [hid, List.map_id]
    rfl
  | cons p ps ih => exact (failTarget_failed d p).cons (ih _)

theorem mem_openTargets (d : Device) (st : StationId) (e : EntryId) (t : Target) : (e, t) ∈ d.openTargets st ↔
    ∃ r ∈ d.trig.actions, r.entry = e ∧ t ∈ r.targets ∧ t.open_ = true ∧ d.lines[t.line].onStation st = true := by
  simp only [Device.openTargets, List.mem_flatMap, List.mem_map, List.mem_filter, Bool.and_eq_true, Prod.mk.injEq]
  constructor
  · rintro ⟨r, hr, t', ⟨ht, hopen, hon⟩, he, rfl⟩
    exact ⟨r, hr, he, ht, hopen, hon⟩
  · rintro ⟨r, hr, he, ht, hopen, hon⟩
    exact ⟨r, hr, t, ⟨ht, hopen, hon⟩, he, rfl⟩

/-- R97: no target on the station is left open. -/
theorem failNamed_closed {d : Device} {st : StationId} {r : ActionRecord} (hr : r ∈ d.trig.actions) {y : Target}
    (hy : y ∈ (r.failNamed (d.openTargets st)).targets) (hon : d.lines[y.line].onStation st = true) :
    y.open_ = false := by
  obtain ⟨t, ht, hty⟩ := List.mem_map.mp hy
  by_cases hnamed : namedIn (d.openTargets st) r.entry t.line = true
  case pos =>
    rw [if_pos hnamed] at hty
    rw [← hty]
    rfl
  case neg =>
    rw [if_neg hnamed] at hty
    subst hty
    rw [← Bool.not_eq_true]
    exact fun hopen => hnamed (List.any_eq_true.mpr
      ⟨_, (mem_openTargets d st _ t).mpr ⟨r, hr, rfl, ht, hopen, hon⟩, decide_eq_true ⟨rfl, rfl⟩⟩)

/-- `e` is `d` once its open targets on a station have failed and complete records are delivered. -/
structure LostTargets (d e : Device) (st : StationId) : Prop where
  rest : e = { d with
    lines := e.lines
    trig := { e.trig with inputs := d.trig.inputs, stationLost := d.trig.stationLost }
    bus := { d.bus with exchange := e.bus.exchange }
    scan := { d.scan with followUp := e.scan.followUp }
    quay := e.quay }
  lines (i : LineId) : e.lines[i] = d.lines[i] ∨
    (d.lines[i].onStation st = true ∧ e.lines[i] = { d.lines[i] with triggerInFlight := none })
  timers (i : LineId) (h : d.trig.releaseTimers[i] = none) : e.trig.releaseTimers[i] = none
  targets : ∀ r ∈ e.trig.actions, ∀ y ∈ r.targets, d.lines[y.line].onStation st = true → y.open_ = false
  quay : ∃ es : List Event, (∀ x ∈ es, x.isDelivery = true) ∧ e.quay = (d.queueEvents es).quay

theorem failTargets_lost (d : Device) (st : StationId) : LostTargets d (d.failTargets st) st := by
  obtain ⟨e, he⟩ : ∃ e, e = (d.openTargets st).foldl Device.failTarget d := ⟨_, rfl⟩
  have hfailed := failTargets_failed (d.openTargets st) d
  rw [← he] at hfailed
  have hdelivered := deliverComplete_delivered e
  have hresult : d.failTargets st = e.deliverComplete := by rw [he]; rfl
  rw [hresult]
  have hlines : e.deliverComplete.lines = e.lines := by rw [hdelivered.rest]
  have htimers : e.deliverComplete.trig.releaseTimers = e.trig.releaseTimers := by rw [hdelivered.rest]
  have hquay : e.quay = d.quay := by rw [hfailed.rest]
  refine ⟨?_, fun i => ?_, fun i h => ?_, fun r hr y hy hon => ?_, ?_⟩
  · rw [hdelivered.rest, hfailed.rest]
  · rw [hlines]
    obtain hsame | ⟨⟨p, hp, hline⟩, hcleared⟩ := hfailed.lines i
    · exact .inl hsame
    · obtain ⟨-, -, -, -, -, hon⟩ := (mem_openTargets d st p.1 p.2).mp hp
      subst hline
      exact .inr ⟨hon, hcleared⟩
  · rw [htimers]
    exact hfailed.timers i h
  · have hmem := hdelivered.actions r hr
    rw [hfailed.actions] at hmem
    obtain ⟨r', hr', rfl⟩ := List.mem_map.mp hmem
    exact failNamed_closed hr' hy hon
  · obtain ⟨es, hes, hevents⟩ := hdelivered.quay
    exact ⟨es, hes, hevents.trans (queueEvents_quay_congr hquay es)⟩

end Sys2Proof.Machine

/-! ### The lines, slots and items of a lost station (for O34 and O59) -/

namespace Sys2Proof.Machine

/-! #### The lines (R25) -/

/-- A step that puts a line into FAULT with cause STATION_LOST; `g` is what it makes of the line's record. -/
structure FaultStep (f : Device → LineId → Device) (g : LineRecord → LineRecord) : Prop where
  work (d : Device) (i : LineId) : Work d (f d i)
  written (d : Device) (i : LineId) : LineWritten d i (g d.lines[i])
    (if d.lines[i].state = .fault ∧ d.lines[i].cause = some .stationLost then d.quay
      else (d.queueEvent (.lineFault i .stationLost)).quay) (f d i)
  tend (d : Device) (i : LineId) : (f d i).tend = (d.setState i .fault).tend
  actions (d : Device) (i : LineId) : (f d i).trig.actions = d.trig.actions
  timers (d : Device) (i j : LineId) (h : d.trig.releaseTimers[j] = none) : (f d i).trig.releaseTimers[j] = none

/-- R144: the line's release stands. -/
theorem putFault_step : FaultStep (fun d i => d.putFault i .stationLost)
    fun r => { r with state := .fault, cause := some .stationLost } where
  work d i := putFault_work d i _
  written d i := putFault_line d i _
  tend d i := putFault_tend d i _
  actions d i := congrArg TriggerUnit.actions (putFault_endKept d i _).trig
  timers d i j h := by rw [(putFault_endKept d i _).trig, h]

/-- A line's fault and the loss of its release, at a drop-out (R25, R140). -/
def Device.dropLine (d : Device) (i : LineId) : Device := (d.putFault i .stationLost).clearInFlight i

theorem dropLine_step : FaultStep Device.dropLine
    fun r => { r with state := .fault, cause := some .stationLost, triggerInFlight := none } where
  work d i := (putFault_work d i _).trans (clearInFlight_work _ i)
  written d i := by
    have hfault := putFault_line d i .stationLost
    have hboth := hfault.trans (clearInFlight_written _ i)
    rw [hfault.line, hfault.quay] at hboth
    exact hboth
  tend d i := putFault_tend d i _
  actions d i := by
    show (d.putFault i .stationLost).trig.actions = d.trig.actions
    rw [(putFault_endKept d i _).trig]
  timers d i j h := by
    rw [Device.dropLine, clearInFlight_releaseTimers, (putFault_endKept d i _).trig, put_get]
    split
    · rfl
    · exact h

/-- The LINE_FAULT events of lines that enter FAULT with cause STATION_LOST (R10). -/
def Device.faultEvents (d : Device) (l : List LineId) : List Event :=
  (l.filter fun i =>
    decide (¬(d.lines[i].state = .fault ∧ d.lines[i].cause = some .stationLost))).map fun i => .lineFault i .stationLost

theorem faultEvents_cons (d : Device) (i : LineId) (l : List LineId) : d.faultEvents (i :: l) =
    if d.lines[i].state = .fault ∧ d.lines[i].cause = some .stationLost then d.faultEvents l
    else .lineFault i .stationLost :: d.faultEvents l := by
  unfold Device.faultEvents
  by_cases h : d.lines[i].state = .fault ∧ d.lines[i].cause = some .stationLost
  · rw [List.filter_cons, if_neg fun hnew => absurd h (of_decide_eq_true hnew), if_pos h]
  · rw [List.filter_cons, if_pos (decide_eq_true h), if_neg h, List.map_cons]

section
variable {f : Device → LineId → Device} {g : LineRecord → LineRecord}

theorem FaultStep.foldl_work (hf : FaultStep f g) (l : List LineId) (d : Device) : Work d (l.foldl f d) :=
  Work.foldl f hf.work l d

theorem FaultStep.foldl_bridge (hf : FaultStep f g) (l : List LineId) (d : Device) :
    (l.foldl f d).bridge = d.bridge := by
  induction l generalizing d with
  | nil => rfl
  | cons i l ih => exact (ih _).trans (hf.written d i).bridge

theorem FaultStep.foldl_actions (hf : FaultStep f g) (l : List LineId) (d : Device) :
    (l.foldl f d).trig.actions = d.trig.actions := by
  induction l generalizing d with
  | nil => rfl
  | cons i l ih => exact (ih _).trans (hf.actions d i)

theorem FaultStep.foldl_line (hf : FaultStep f g) {l : List LineId} (hl : l.Nodup) (d : Device) (i : LineId) :
    (l.foldl f d).lines[i] = if i ∈ l then g d.lines[i] else d.lines[i] := by
  induction l generalizing d with
  | nil => rfl
  | cons j l ih =>
    obtain ⟨hj, hl⟩ := List.nodup_cons.mp hl
    rw [List.foldl_cons, ih hl]
    by_cases hij : i = j
    case pos =>
      subst hij
      rw [if_neg hj, if_pos List.mem_cons_self, (hf.written d i).line]
    case neg =>
      rw [(hf.written d j).other hij]
      exact if_congr ⟨List.mem_cons_of_mem j, fun h => (List.mem_cons.mp h).resolve_left hij⟩ rfl rfl

theorem FaultStep.foldl_tend (hf : FaultStep f g) {l : List LineId} {d : Device} {y : TendEntry}
    (h : y ∈ (l.foldl f d).tend) : ∀ i ∈ l, l.Nodup → d.lines[i].state = .tending → y.line ≠ i := by
  have hsubset (l : List LineId) (d : Device) (y : TendEntry) (h : y ∈ (l.foldl f d).tend) : y ∈ d.tend := by
    induction l generalizing d with
    | nil => exact h
    | cons i l ih =>
      have hy := ih _ h
      rw [hf.tend] at hy
      exact (setState_endKept d i _).tend y hy
  induction l generalizing d with
  | nil => exact fun i hi => absurd hi List.not_mem_nil
  | cons j l ih =>
    intro i hi hnodup htending
    obtain ⟨hj, hnodup⟩ := List.nodup_cons.mp hnodup
    by_cases hij : i = j
    case pos =>
      subst hij
      have hy := hsubset l _ y h
      rw [hf.tend, setState_tend_of_leaving htending LineState.noConfusion, List.mem_filter] at hy
      exact of_decide_eq_true hy.2
    case neg =>
      refine ih h i ((List.mem_cons.mp hi).resolve_left hij) hnodup ?_
      rw [(hf.written d j).other hij, htending]

theorem FaultStep.foldl_timers (hf : FaultStep f g) (l : List LineId) {d : Device} {i : LineId}
    (h : d.trig.releaseTimers[i] = none) : (l.foldl f d).trig.releaseTimers[i] = none := by
  induction l generalizing d with
  | nil => exact h
  | cons j l ih => exact ih (hf.timers d j i h)

theorem FaultStep.foldl_quay (hf : FaultStep f g) {l : List LineId} (hl : l.Nodup) (d : Device) :
    (l.foldl f d).quay = (d.queueEvents (d.faultEvents l)).quay := by
  induction l generalizing d with
  | nil => rfl
  | cons i l ih =>
    obtain ⟨hi, hl⟩ := List.nodup_cons.mp hl
    have hwritten := hf.written d i
    have hrest : (f d i).faultEvents l = d.faultEvents l := by
      refine congrArg (List.map _) (List.filter_congr fun j hj => ?_)
      rw [hwritten.other fun he => hi (he ▸ hj)]
    rw [List.foldl_cons, ih hl, hrest, faultEvents_cons]
    have hquay := hwritten.quay
    split at hquay
    next halready =>
      rw [if_pos halready]
      exact queueEvents_quay_congr hquay _
    next halready =>
      rw [if_neg halready]
      exact queueEvents_quay_congr (d := d.queueEvent _) hquay _

end

/-! #### The slots (R80) -/

/-- A slot that ends NO_RESPONSE leaves a line in FAULT as it is, and queues nothing (R14). -/
theorem endSlots_of_fault {ks : List SlotId} {d : Device}
    (h : ∀ k ∈ ks, d.bridge.slots[k].live = true → ∀ c : SlotCommand, d.bridge.slots[k].command = some c →
      d.lines[c.line].state = .fault) :
    (d.endSlots ks .noResponse).lines = d.lines ∧ (d.endSlots ks .noResponse).quay = d.quay := by
  induction ks generalizing d with
  | nil => exact ⟨rfl, rfl⟩
  | cons k ks ih =>
    have hone : (d.endSlot k .noResponse).lines = d.lines ∧ (d.endSlot k .noResponse).quay = d.quay := by
      by_cases hend : d.bridge.slots[k].endable
      case neg =>
        rw [endSlot_of_not_endable _ hend]
        exact ⟨rfl, rfl⟩
      case pos =>
        obtain ⟨hlive, hcommand⟩ := hend
        obtain ⟨c, hc⟩ := Option.ne_none_iff_exists'.mp hcommand
        have hfault := h k List.mem_cons_self hlive c hc
        have htransit : d.lines[c.line].state ≠ c.verb.transitional := fun he =>
          c.verb.transitional_ne_fault (he.symm.trans hfault)
        rw [endSlot_lines hc hlive, endSlot_quay hc hlive, LineRecord.afterResult_of_isFailure _ _ _ rfl,
          if_neg htransit, LineRecord.marked, if_pos hfault, put_self]
        exact ⟨rfl, if_neg fun hf => htransit hf.2⟩
    rw [endSlots_cons]
    obtain ⟨hlines, hquay⟩ := ih (d := d.endSlot k .noResponse) fun j hj hlive c hc => by
      rw [hone.1]
      obtain hsame | hdead := endSlot_slot_cases d k j .noResponse
      · rw [hsame] at hlive hc
        exact h j (List.mem_cons_of_mem k hj) hlive c hc
      · exact absurd (hlive.symm.trans hdead) Bool.true_eq_false.mp
    exact ⟨hlines.trans hone.1, hquay.trans hone.2⟩

/-! #### The posted entries and the frames of the STATION source (R65, R78, R140, R144) -/

/-- The part with a station's posted entries and frames gone. -/
def Device.itemsDropped (d : Device) (st : StationId) (why : UndeliveredReason) : Device :=
  ((d.removePosted (PostedEntry.isFor st) why).dropStation (StationItem.isStopFor st)).dropStation
    (StationItem.isOpFor st)

theorem removePosted_eq (d : Device) (st : StationId) (why : UndeliveredReason) :
    d.removePosted (PostedEntry.isFor st) why = { d with
      bridge := { d.bridge with posted := d.bridge.posted.filter fun p => decide (p.station ≠ st) }
      bus := (d.posteds (PostedEntry.isFor st)).bus
      quay := (d.queueEvents (d.lostPosted st why)).quay } := by
  have hremove : d.removePosted (PostedEntry.isFor st) why =
      (d.posteds (PostedEntry.isFor st)).queueEvents (d.lostPosted st why) := rfl
  have hquay : (d.posteds (PostedEntry.isFor st)).quay = d.quay := by rw [posteds_eq]
  have htest (p : PostedEntry) : (!PostedEntry.isFor st p) = decide (p.station ≠ st) := by
    rw [PostedEntry.isFor, decide_not]
  rw [hremove, queueEvents_eq, queueEvents_quay_congr hquay, posteds_eq]
  simp only [htest]

theorem posteds_source (d : Device) (p : PostedEntry → Bool) :
    (d.posteds p).bus.stationSource = d.bus.stationSource := by
  unfold Device.posteds Device.detach
  split
  · split
    · split <;> rfl
    · rfl
  · rfl

theorem StationItem.isStopFor_iff (st : StationId) (x : StationItem) :
    x.isStopFor st = true ↔ x.station = st ∧ ∃ drum : Drum, x.frame = .stop drum := by
  unfold StationItem.isStopFor
  cases x.frame <;> simp

theorem itemsDropped_eq (d : Device) (st : StationId) (why : UndeliveredReason) : d.itemsDropped st why = { d with
    bridge := { d.bridge with posted := d.bridge.posted.filter fun p => decide (p.station ≠ st) }
    bus := (d.itemsDropped st why).bus
    quay := (d.queueEvents (d.lostPosted st why)).quay } := by
  unfold Device.itemsDropped
  rw [dropStation_eq, dropStation_eq, removePosted_eq]

theorem itemsDropped_source (d : Device) (st : StationId) (why : UndeliveredReason) (x : StationItem)
    (h : x ∈ (d.itemsDropped st why).bus.stationSource) : x.station ≠ st := by
  unfold Device.itemsDropped at h
  rw [dropStation_eq, dropStation_eq] at h
  obtain ⟨h, hop⟩ := List.mem_filter.mp h
  obtain ⟨-, hstop⟩ := List.mem_filter.mp h
  intro hst
  cases hframe : x.frame with
  | stop drum =>
    rw [(StationItem.isStopFor_iff st x).mpr ⟨hst, drum, hframe⟩] at hstop
    exact Bool.false_ne_true hstop
  | op o =>
    rw [(StationItem.isOpFor_iff st x).mpr ⟨hst, o, hframe⟩] at hop
    exact Bool.false_ne_true hop

end Sys2Proof.Machine

/-! ### The loss of a station (O34 and O59) -/

namespace Sys2Proof.Machine

/-! #### The slots' ends and the items' removal, together -/

/-- The part once a station's live slots have ended NO_RESPONSE and its posted entries and frames are gone. -/
def Device.workEnded (d : Device) (st : StationId) (why : UndeliveredReason) : Device :=
  (d.endSlotsWhere (fun s => s.live && d.slotOnStation st s) .noResponse).itemsDropped st why

/-- What those steps leave where the station's lines are in FAULT. -/
structure WorkEnded (d t : Device) (st : StationId) (why : UndeliveredReason) : Prop where
  lines : t.lines = d.lines
  tend : ∀ y ∈ t.tend, y ∈ d.tend
  trig : t.trig = d.trig
  stations : t.stations = d.stations
  hold : t.hold = d.hold
  ended (k : SlotId) (hlive : d.bridge.slots[k].live = true) (hon : d.slotOnStation st d.bridge.slots[k] = true) :
    t.bridge.slots[k].state = .complete ∧ t.bridge.slots[k].result = some .noResponse
  live (k : SlotId) (h : t.bridge.slots[k].live = true) : d.slotOnStation st t.bridge.slots[k] = false
  posted : t.bridge.posted = d.bridge.posted.filter fun p => decide (p.station ≠ st)
  source : ∀ x ∈ t.bus.stationSource, x.station ≠ st
  quay : t.quay = (d.queueEvents (d.lostPosted st why)).quay

theorem lostPosted_congr {d e : Device} (h : e.bridge.posted = d.bridge.posted) (st : StationId)
    (why : UndeliveredReason) : e.lostPosted st why = d.lostPosted st why := by
  unfold Device.lostPosted
  rw [h]

theorem workEnded_of_fault {d : Device} {st : StationId} (why : UndeliveredReason)
    (hfault : ∀ i : LineId, d.lines[i].onStation st = true → d.lines[i].state = .fault) :
    WorkEnded d (d.workEnded st why) st why := by
  obtain ⟨e, he⟩ : ∃ e, e = d.endSlotsWhere (fun s => s.live && d.slotOnStation st s) .noResponse := ⟨_, rfl⟩
  have hwork : Work d e := he ▸ endSlotsWhere_work d _ _
  have hkept : EndKept d e := he ▸ endSlots_endKept d _ _
  have hsame : e.lines = d.lines ∧ e.quay = d.quay := by
    rw [he]
    refine endSlots_of_fault fun k hk _ c hc => ?_
    have hon := (mem_slotsInOrder d _ k).mp hk
    rw [Bool.and_eq_true, slotOnStation_iff] at hon
    obtain ⟨-, c', hc', hon⟩ := hon
    rw [hc] at hc'
    exact hfault c.line (Option.some.inj hc' ▸ hon)
  have hended (k : SlotId) (hlive : d.bridge.slots[k].live = true)
      (hon : d.slotOnStation st d.bridge.slots[k] = true) :
      e.bridge.slots[k].state = .complete ∧ e.bridge.slots[k].result = some .noResponse := by
    obtain ⟨c, hc, -⟩ := (slotOnStation_iff d st _).mp hon
    rw [he]
    exact endSlotsWhere_slot_ended _ (Bool.and_eq_true_iff.mpr ⟨hlive, hon⟩)
      ⟨hlive, Option.ne_none_iff_exists'.mpr ⟨c, hc⟩⟩
  have hlive (k : SlotId) (h : e.bridge.slots[k].live = true) : d.slotOnStation st e.bridge.slots[k] = false := by
    by_cases hp : (d.bridge.slots[k].live && d.slotOnStation st d.bridge.slots[k]) = true
    case pos =>
      obtain ⟨hlive, hon⟩ := Bool.and_eq_true_iff.mp hp
      rw [Slot.live, (hended k hlive hon).1] at h
      exact absurd h Bool.false_ne_true
    case neg =>
      have hk : e.bridge.slots[k] = d.bridge.slots[k] := by
        rw [he]
        exact endSlotsWhere_slot_other _ (Bool.eq_false_of_not_eq_true hp)
      rw [hk] at h ⊢
      rw [h, Bool.true_and] at hp
      exact Bool.eq_false_of_not_eq_true hp
  have hresult : d.workEnded st why = e.itemsDropped st why := by rw [he]; rfl
  have hsource := itemsDropped_source e st why
  rw [hresult]
  rw [itemsDropped_eq] at hsource ⊢
  refine ⟨hsame.1, hkept.tend, hkept.trig, hwork.stations, hwork.hold, hended, hlive, ?_, hsource, ?_⟩
  · exact congrArg (List.filter _) hwork.posted
  · rw [← lostPosted_congr hwork.posted]
    exact queueEvents_quay_congr hsame.2 _

/-! #### All that a lost station leaves -/

/-- What the loss of a station leaves of its work, and of the rest of the part but for the stations' records, the Scan
Unit and the Quay Port. -/
structure StationLost (d t : Device) (st : StationId) : Prop where
  faulted (i : LineId) (h : d.lines[i].onStation st = true) :
    t.lines[i].state = .fault ∧ t.lines[i].cause = some .stationLost
  other (i : LineId) (h : d.lines[i].onStation st = false) : t.lines[i] = d.lines[i]
  unworked (i : LineId) : t.lines[i].unworked = d.lines[i].unworked
  tend (i : LineId) (hon : d.lines[i].onStation st = true) (htending : d.lines[i].state = .tending) :
    ∀ y ∈ t.tend, y.line ≠ i
  ended (k : SlotId) (hlive : d.bridge.slots[k].live = true) (hon : d.slotOnStation st d.bridge.slots[k] = true) :
    t.bridge.slots[k].state = .complete ∧ t.bridge.slots[k].result = some .noResponse
  live (k : SlotId) (h : t.bridge.slots[k].live = true) : d.slotOnStation st t.bridge.slots[k] = false
  posted : t.bridge.posted = d.bridge.posted.filter fun p => decide (p.station ≠ st)
  source : ∀ x ∈ t.bus.stationSource, x.station ≠ st
  targets : ∀ r ∈ t.trig.actions, ∀ y ∈ r.targets, d.lines[y.line].onStation st = true → y.open_ = false
  hold : t.hold = d.hold
  inputs : t.trig.inputs = d.trig.inputs
  stationLost : t.trig.stationLost = d.trig.stationLost

theorem Target.not_open_iff (y : Target) : y.open_ = false ↔ y.state ≠ .waiting ∧ y.state ≠ .sent := by
  rw [Target.open_, Bool.or_eq_false_iff, decide_eq_false_iff_not, decide_eq_false_iff_not]

section
variable {d t : Device} {st : StationId}

theorem StationLost.workGone (h : StationLost d t st) : WorkGone d t st :=
  ⟨h.faulted, h.tend, h.ended, h.posted, h.source,
    fun r hr y hy hon => (Target.not_open_iff y).mp (h.targets r hr y hy hon)⟩

theorem StationLost.written (h : StationLost d t st) (v : Vector StationRecord 16) (s : ScanUnit) (q : QuayPort) :
    StationLost d { t with stations := v, scan := s, quay := q } st :=
  ⟨h.faulted, h.other, h.unworked, h.tend, h.ended, h.live, h.posted, h.source, h.targets, h.hold, h.inputs,
    h.stationLost⟩

end

theorem onStation_of_unworked {r r' : LineRecord} (h : r'.unworked = r.unworked) (st : StationId) :
    r'.onStation st = r.onStation st := by
  have hbinding : r'.binding = r.binding := by
    have hkept := congrArg LineRecord.binding h
    exact hkept
  unfold LineRecord.onStation
  rw [hbinding]

section
variable {f : Device → LineId → Device} {g : LineRecord → LineRecord}

/-- A lost station's work, from its lines to its targets; `v` are the stations' records before the targets fail. -/
def Device.workLost (f : Device → LineId → Device) (d : Device) (st : StationId) (why : UndeliveredReason)
    (v : Vector StationRecord 16) : Device :=
  ({ ((d.linesOf st).foldl f d).workEnded st why with stations := v }).failTargets st

theorem FaultStep.foldl_fault (hf : FaultStep f g)
    (hg : ∀ r : LineRecord, (g r).state = .fault ∧ (g r).cause = some .stationLost) (d : Device) (st : StationId)
    (i : LineId) (h : d.lines[i].onStation st = true) :
    ((d.linesOf st).foldl f d).lines[i].state = .fault ∧
      ((d.linesOf st).foldl f d).lines[i].cause = some .stationLost := by
  rw [hf.foldl_line (linesOf_nodup d st), if_pos (mem_linesOf.mpr h)]
  exact hg _

/-- R25, R80, R65, R97: all of a lost station's work goes, and its events are in that order. -/
theorem FaultStep.stationLost (hf : FaultStep f g)
    (hg : ∀ r : LineRecord, (g r).state = .fault ∧ (g r).cause = some .stationLost) (d : Device) (st : StationId)
    (why : UndeliveredReason) (v : Vector StationRecord 16) :
    StationLost d (d.workLost f st why v) st ∧ (d.workLost f st why v).stations = v ∧
      ∃ es : List Event, (∀ x ∈ es, x.isDelivery = true) ∧
        (d.workLost f st why v).quay = (d.queueEvents (d.lostFaults st ++ d.lostPosted st why ++ es)).quay := by
  have hfault := hf.foldl_fault hg d st
  have hwork := hf.foldl_work (d.linesOf st) d
  have hbridge := hf.foldl_bridge (d.linesOf st) d
  have hlines := hf.foldl_line (linesOf_nodup d st) d
  have hquay := hf.foldl_quay (linesOf_nodup d st) d
  have htend (y : TendEntry) (hy : y ∈ ((d.linesOf st).foldl f d).tend) := hf.foldl_tend hy
  unfold Device.workLost
  obtain ⟨e, he⟩ : ∃ e, e = (d.linesOf st).foldl f d := ⟨_, rfl⟩
  rw [← he] at hfault hwork hbridge hlines hquay htend ⊢
  have hon (i : LineId) : e.lines[i].onStation st = d.lines[i].onStation st :=
    onStation_of_unworked (hwork.lines i) st
  have hslot (x : Slot) : e.slotOnStation st x = d.slotOnStation st x := by
    rw [Bool.eq_iff_iff, slotOnStation_iff, slotOnStation_iff]
    simp only [hon]
  have hended := workEnded_of_fault (d := e) (st := st) why fun i h => (hfault i ((hon i).symm.trans h)).1
  obtain ⟨b, hb⟩ : ∃ b, b = e.workEnded st why := ⟨_, rfl⟩
  rw [← hb] at hended ⊢
  have hlost := failTargets_lost ({ b with stations := v }) st
  obtain ⟨t, ht⟩ : ∃ t, t = ({ b with stations := v }).failTargets st := ⟨_, rfl⟩
  rw [← ht] at hlost ⊢
  have hline (i : LineId) : t.lines[i] = e.lines[i] ∨
      (d.lines[i].onStation st = true ∧ t.lines[i] = { e.lines[i] with triggerInFlight := none }) := by
    have h := hlost.lines i
    dsimp only at h
    rw [hended.lines, hon] at h
    exact h
  have hposted : t.bridge = b.bridge := (congrArg Device.bridge hlost.rest).trans rfl
  refine ⟨⟨fun i h => ?faulted, fun i h => ?other, fun i => ?unworked, fun i h htending y hy => ?tend,
    fun k hlive h => ?ended, fun k h => ?live, ?posted, ?source, fun r hr y hy h => ?targets, ?hold, ?inputs,
    ?lost⟩, ?stations, ?quay⟩
  case faulted =>
    obtain hi | ⟨-, hi⟩ := hline i
    · rw [hi]
      exact hfault i h
    · rw [hi]
      exact hfault i h
  case other =>
    obtain hi | ⟨hi, -⟩ := hline i
    · rw [hi, hlines, if_neg fun hmem => Bool.false_ne_true (h.symm.trans (mem_linesOf.mp hmem))]
    · exact absurd (h.symm.trans hi) Bool.false_ne_true
  case unworked =>
    rw [← hwork.lines i]
    obtain hi | ⟨-, hi⟩ := hline i
    · rw [hi]
    · rw [hi]
      rfl
  case tend =>
    have hkept : t.tend = b.tend := (congrArg Device.tend hlost.rest).trans rfl
    rw [hkept] at hy
    exact htend y (hended.tend y hy) i (mem_linesOf.mpr h) (linesOf_nodup d st) htending
  case ended =>
    rw [hposted]
    exact hended.ended k (by rw [hbridge, hlive]) (by rw [hbridge, hslot, h])
  case live =>
    rw [hposted] at h ⊢
    rw [← hslot]
    exact hended.live k h
  case posted => rw [hposted, hended.posted, hbridge]
  case source =>
    have hkept : t.bus.stationSource = b.bus.stationSource :=
      (congrArg (fun d => d.bus.stationSource) hlost.rest).trans rfl
    rw [hkept]
    exact hended.source
  case targets =>
    refine hlost.targets r hr y hy ?_
    dsimp only
    rw [hended.lines, hon, h]
  case hold =>
    have hkept : t.hold = b.hold := (congrArg Device.hold hlost.rest).trans rfl
    rw [hkept, hended.hold, hwork.hold]
  case inputs =>
    have hkept : t.trig.inputs = b.trig.inputs := (congrArg (fun d => d.trig.inputs) hlost.rest).trans rfl
    rw [hkept, hended.trig, hwork.inputs]
  case lost =>
    have hkept : t.trig.stationLost = b.trig.stationLost :=
      (congrArg (fun d => d.trig.stationLost) hlost.rest).trans rfl
    rw [hkept, hended.trig, hwork.stationLost]
  case stations => exact (congrArg Device.stations hlost.rest).trans rfl
  case quay =>
    obtain ⟨es, hes, hevents⟩ := hlost.quay
    refine ⟨es, hes, hevents.trans ?_⟩
    have hb : ({ b with stations := v } : Device).quay =
        (d.queueEvents (d.lostFaults st ++ d.lostPosted st why)).quay := by
      rw [queueEvents_append, ← lostPosted_congr (congrArg Bridge.posted hbridge)]
      exact hended.quay.trans (queueEvents_quay_congr hquay _)
    rw [queueEvents_append (es := d.lostFaults st ++ d.lostPosted st why)]
    exact queueEvents_quay_congr hb es

/-- A step that forgets its line's release has forgotten every release of the station (R140). -/
theorem FaultStep.releases_forgotten (hf : FaultStep f g) (hg : ∀ r : LineRecord, (g r).triggerInFlight = none)
    (htimer : ∀ (d : Device) (i : LineId), (f d i).trig.releaseTimers[i] = none) (d : Device) (st : StationId)
    (hfault : ∀ i : LineId, d.lines[i].onStation st = true →
      ((d.linesOf st).foldl f d).lines[i].state = .fault) (why : UndeliveredReason) (v : Vector StationRecord 16)
    (i : LineId) (h : d.lines[i].onStation st = true) :
    (d.workLost f st why v).lines[i].triggerInFlight = none ∧
      (d.workLost f st why v).trig.releaseTimers[i] = none := by
  have htimers (l : List LineId) (d : Device) (hi : i ∈ l) : (l.foldl f d).trig.releaseTimers[i] = none := by
    induction l generalizing d with
    | nil => exact absurd hi List.not_mem_nil
    | cons j l ih =>
      by_cases hij : i = j
      case pos =>
        subst hij
        exact hf.foldl_timers l (htimer d i)
      case neg => exact ih _ ((List.mem_cons.mp hi).resolve_left hij)
  have hmem := mem_linesOf.mpr h
  have hline := hf.foldl_line (linesOf_nodup d st) d i
  rw [if_pos hmem] at hline
  have htimer := htimers _ d hmem
  have hwork := hf.foldl_work (d.linesOf st) d
  unfold Device.workLost
  obtain ⟨e, he⟩ : ∃ e, e = (d.linesOf st).foldl f d := ⟨_, rfl⟩
  rw [← he] at hline hfault htimer hwork ⊢
  have hended := workEnded_of_fault (d := e) (st := st) why fun i h =>
    hfault i ((onStation_of_unworked (hwork.lines i) st).symm.trans h)
  obtain ⟨b, hb⟩ : ∃ b, b = e.workEnded st why := ⟨_, rfl⟩
  rw [← hb] at hended ⊢
  have hlost := failTargets_lost ({ b with stations := v }) st
  obtain ⟨t, ht⟩ : ∃ t, t = ({ b with stations := v }).failTargets st := ⟨_, rfl⟩
  rw [← ht] at hlost ⊢
  refine ⟨?_, hlost.timers i ?_⟩
  · have hbefore : b.lines[i].triggerInFlight = none := by rw [hended.lines, hline, hg]
    obtain hi | ⟨-, hi⟩ := hlost.lines i
    · rw [hi]
      exact hbefore
    · rw [hi]
  · dsimp only
    rw [hended.trig]
    exact htimer

end

/-! #### The flags and the event of the loss (R132, R137) -/

theorem syncProbe_raiseChange_eq {d : Device} {st : StationId} (f : ChangeFlags)
    (hdue : d.stations[st].probeDue = false) : (d.syncProbe st).raiseChange st f = { d with
      stations := put d.stations st { d.stations[st] with flags := d.stations[st].flags.union f }
      scan := { d.scan with probe := put d.scan.probe st none }
      quay := (d.queueEvents (stationChanges st d.stations[st].flags
        { d.stations[st] with flags := d.stations[st].flags.union f })).quay } := by
  have hprobe : d.syncProbe st = d.setProbe st none := if_neg (Bool.eq_false_iff.mp hdue)
  rw [hprobe, raiseChange_eq, queueEvents_eq]
  rw [queueEvents_quay_congr (d := d) (d' := (d.setProbe st none).setStation st _) rfl]
  rfl

end Sys2Proof.Machine

/-! ### A drop-out, and the power of a station (O34 and O59) -/

namespace Sys2Proof.Machine

/-! #### The drop-out (R140) -/

/-- A station's record as a drop-out leaves it, but for its change flags. -/
def StationRecord.droppedOut (r : StationRecord) : StationRecord :=
  { r with presence := .absent, enabled := false, missed := 0, resetting := false }

/-- The flags that a drop-out sets. -/
def StationRecord.dropOutFlags (r : StationRecord) : ChangeFlags :=
  { presence := true, enable := true, reset := r.resetting }

theorem workEnded_stations {f : Device → LineId → Device} {g : LineRecord → LineRecord} (hf : FaultStep f g)
    (l : List LineId) (d : Device) (st : StationId) (why : UndeliveredReason) :
    ((l.foldl f d).workEnded st why).stations = d.stations := by
  have hwork := (hf.foldl_work l d).trans
    (endSlotsWhere_work _ (fun s => s.live && (l.foldl f d).slotOnStation st s) .noResponse)
  unfold Device.workEnded
  rw [itemsDropped_eq]
  exact hwork.stations

/-- The part at a drop-out, its work gone and its flags not yet set. -/
def Device.dropped (d : Device) (st : StationId) : Device :=
  (d.setStation st d.stations[st].droppedOut).workLost Device.dropLine st .stationLost
    (put d.stations st d.stations[st].droppedOut)

/-- The trigger entries' condition STATION LOST of a station holds (R89). -/
def Device.markLost (d : Device) (st : StationId) : Device :=
  { d with trig := { d.trig with stationLost := put d.trig.stationLost st true } }

/-- The part at a drop-out before the trigger entries take their conditions. -/
def Device.dropRaised (d : Device) (st : StationId) : Device :=
  (((d.dropped st).syncProbe st).raiseChange st d.stations[st].dropOutFlags).markLost st

theorem stations_self {d : Device} {v : Vector StationRecord 16} (h : d.stations = v) :
    ({ d with stations := v } : Device) = d := by
  subst h
  rfl

theorem dropOut_eq (d : Device) (st : StationId) : d.dropOut st = (d.dropRaised st).takeConditions := by
  have hstations : ((((d.setStation st d.stations[st].droppedOut).linesOf st).foldl Device.dropLine
      (d.setStation st d.stations[st].droppedOut)).workEnded st .stationLost).stations =
        put d.stations st d.stations[st].droppedOut := workEnded_stations dropLine_step _ _ st .stationLost
  unfold Device.dropRaised Device.dropped Device.workLost
  rw [stations_self hstations]
  unfold Device.dropOut Device.updStation Device.workEnded Device.itemsDropped Device.markLost Device.dropLine
    StationRecord.dropOutFlags StationRecord.droppedOut
  dsimp only

section
variable {d c u w : Device} {st : StationId}

/-- Firings after the loss leave the lost work as it is: the station is not enabled, so that its lines are at rest. -/
theorem StationLost.atRest (h : StationLost d c st) (hlines : u.lines = c.lines) (hbridge : u.bridge = c.bridge)
    (henabled : u.stations[st].enabled = false) {i : LineId} (hon : d.lines[i].onStation st = true) : u.AtRest i where
  state := by rw [hlines, (h.faulted i hon).1]
  eligible := by
    have hon' : u.lines[i].onStation st = true := by
      rw [hlines, onStation_of_unworked (h.unworked i), hon]
    obtain ⟨b, hb, hst⟩ := (LineRecord.onStation_iff _ st).mp hon'
    subst hst
    rw [eligible_of_binding hb, Bool.eq_false_iff]
    intro havailable
    obtain ⟨-, henabled', -⟩ := (StationRecord.available_iff _).mp havailable
    exact Bool.false_ne_true (henabled.symm.trans henabled')
  slots k hk := by
    rw [hbridge] at hk ⊢
    rw [Bool.eq_false_iff]
    intro hfor
    refine Bool.false_ne_true ((h.live k hk).symm.trans ((slotOnStation_iff d st _).mpr ?_))
    unfold Slot.forLine at hfor
    cases hcommand : c.bridge.slots[k].command with
    | none =>
      rw [hcommand] at hfor
      exact absurd hfor Bool.false_ne_true
    | some x =>
      rw [hcommand] at hfor
      have hline : x.line = i := of_decide_eq_true hfor
      subst hline
      exact ⟨x, rfl, hon⟩

theorem StationLost.workGone_of_entryWork (h : StationLost d c st) (hlines : u.lines = c.lines)
    (hbridge : u.bridge = c.bridge) (htend : u.tend = c.tend) (hbus : u.bus = c.bus)
    (hactions : u.trig.actions = c.trig.actions) (henabled : u.stations[st].enabled = false) (hw : EntryWork u w) :
    WorkGone d w st := by
  have hrest {i : LineId} (hon : d.lines[i].onStation st = true) := h.atRest hlines hbridge henabled hon
  refine ⟨fun i hon => ?lines, fun i hon htending y hy => ?tend, fun k hlive hon => ?slots, ?posted, ?source,
    fun r hr y hy hon => ?targets⟩
  case lines =>
    rw [hw.lines i (hrest hon), hlines]
    exact h.faulted i hon
  case tend =>
    have hmem := hw.tend y hy
    rw [htend] at hmem
    exact h.tend i hon htending y hmem
  case slots =>
    have hended := h.ended k hlive hon
    rw [← hbridge] at hended
    obtain hsame | ⟨hlive', -⟩ := hw.slots k
    · rw [hsame]
      exact hended
    · rw [Slot.live, hended.1] at hlive'
      exact absurd hlive' Bool.false_ne_true
  case posted => rw [hw.work.posted, hbridge, h.posted]
  case source =>
    have hkept : w.bus.stationSource = u.bus.stationSource := (congrArg Bus.stationSource hw.work.bus).trans rfl
    rw [hkept, hbus]
    exact h.source
  case targets =>
    refine (Target.not_open_iff y).mp ?_
    obtain hold | hnew := hw.actions r hr
    · rw [hactions] at hold
      exact h.targets r hold y hy hon
    · exact hnew y hy (hrest hon).eligible

end

theorem StationRecord.probeDue_of_not_enabled {r : StationRecord} (h : r.enabled = false) : r.probeDue = false := by
  rw [Bool.eq_false_iff]
  intro hdue
  obtain ⟨-, henabled, -⟩ := r.probeDue_iff.mp hdue
  exact Bool.false_ne_true (h.symm.trans henabled)

theorem StationRecord.probeDue_of_not_on {r : StationRecord} (h : r.power ≠ .on) : r.probeDue = false := by
  rw [Bool.eq_false_iff]
  exact fun hdue => h (r.probeDue_iff.mp hdue).1

/-- The flags are set, one event tells of those newly set, the probe timer stops, and the entries' condition holds. -/
theorem raised_markLost_eq {c : Device} {st : StationId} {r : StationRecord} (f : ChangeFlags)
    (hrecord : c.stations[st] = r) (hdue : r.probeDue = false) :
    ((c.syncProbe st).raiseChange st f).markLost st = { c with
      stations := put c.stations st { r with flags := r.flags.union f }
      trig := { c.trig with stationLost := put c.trig.stationLost st true }
      scan := { c.scan with probe := put c.scan.probe st none }
      quay := (c.queueEvents (stationChanges st r.flags { r with flags := r.flags.union f })).quay } := by
  subst hrecord
  rw [syncProbe_raiseChange_eq f hdue]
  rfl

theorem dropRaised_eq {d : Device} {st : StationId}
    (hstations : (d.dropped st).stations = put d.stations st d.stations[st].droppedOut) : d.dropRaised st =
    { d.dropped st with
      stations := put d.stations st { d.stations[st].droppedOut with
        flags := d.stations[st].flags.union d.stations[st].dropOutFlags }
      trig := { (d.dropped st).trig with stationLost := put (d.dropped st).trig.stationLost st true }
      scan := { (d.dropped st).scan with probe := put (d.dropped st).scan.probe st none }
      quay := ((d.dropped st).queueEvents (stationChanges st d.stations[st].flags
        { d.stations[st].droppedOut with
          flags := d.stations[st].flags.union d.stations[st].dropOutFlags })).quay } := by
  unfold Device.dropRaised
  obtain ⟨c, hc⟩ : ∃ c, c = d.dropped st := ⟨_, rfl⟩
  rw [← hc] at hstations ⊢
  have hrecord : c.stations[st] = d.stations[st].droppedOut := by rw [hstations, put_get_self]
  rw [raised_markLost_eq _ hrecord (StationRecord.probeDue_of_not_enabled rfl), hstations, put_put]
  rfl

theorem StationLost.of_stations {d t : Device} {st : StationId} {v : Vector StationRecord 16}
    (h : StationLost { d with stations := v } t st) : StationLost d t st :=
  ⟨h.faulted, h.other, h.unworked, h.tend, h.ended, h.live, h.posted, h.source, h.targets, h.hold, h.inputs,
    h.stationLost⟩

theorem dropped_stationLost (d : Device) (st : StationId) : StationLost d (d.dropped st) st ∧
    (d.dropped st).stations = put d.stations st d.stations[st].droppedOut ∧
      ∃ es : List Event, (∀ x ∈ es, x.isDelivery = true) ∧
        (d.dropped st).quay = (d.queueEvents (d.lostFaults st ++ d.lostPosted st .stationLost ++ es)).quay := by
  obtain ⟨hlost, hstations, es, hes, hquay⟩ := dropLine_step.stationLost (fun _ => ⟨rfl, rfl⟩)
    (d.setStation st d.stations[st].droppedOut) st .stationLost (put d.stations st d.stations[st].droppedOut)
  refine ⟨hlost.of_stations, hstations, es, hes, hquay.trans ?_⟩
  exact queueEvents_quay_congr (d := d) (d' := d.setStation st d.stations[st].droppedOut) rfl _

theorem dropped_forgotten (d : Device) (st : StationId) (i : LineId) (h : d.lines[i].onStation st = true) :
    (d.dropped st).lines[i].triggerInFlight = none ∧ (d.dropped st).trig.releaseTimers[i] = none :=
  dropLine_step.releases_forgotten (fun _ => rfl)
    (fun d i => by rw [Device.dropLine, clearInFlight_releaseTimers, put_get_self])
    (d.setStation st d.stations[st].droppedOut) st
    (fun i h => (dropLine_step.foldl_fault (fun _ => ⟨rfl, rfl⟩) _ st i h).1) .stationLost
    (put d.stations st d.stations[st].droppedOut) i h

/-- Settles O59. -/
theorem dropOutOfAStation : Obligations.DropOutOfAStation := by
  unfold Obligations.DropOutOfAStation
  intro d st t
  obtain ⟨hlost, hstations, es, hes, hquay⟩ := dropped_stationLost d st
  have hforgotten := dropped_forgotten d st
  have ht : t = (d.dropRaised st).takeConditions := dropOut_eq d st
  have hu := dropRaised_eq (d := d) (st := st) hstations
  have hw := takeConditions_entryWork (d.dropRaised st)
  rw [← ht] at hw
  clear_value t
  clear ht
  obtain ⟨c, hc⟩ : ∃ c, c = d.dropped st := ⟨_, rfl⟩
  rw [← hc] at hlost hforgotten hquay hu
  obtain ⟨u, hdef⟩ : ∃ u, u = d.dropRaised st := ⟨_, rfl⟩
  rw [← hdef] at hu hw
  have hrecord : u.stations[st] = { d.stations[st].droppedOut with
      flags := d.stations[st].flags.union d.stations[st].dropOutFlags } := by rw [hu]; exact put_get_self _ _ _
  have hlines : u.lines = c.lines := by rw [hu]
  have hbridge : u.bridge = c.bridge := by rw [hu]
  have henabled : u.stations[st].enabled = false := by rw [hrecord]; rfl
  have htrecord : t.stations[st] = u.stations[st] := by rw [hw.work.stations]
  refine ⟨?record, fun st' hst' => ?others, ?work, fun i => ?unworked, fun i h => ?released, ?quay, ?probe, ?lost,
    ?hold⟩
  case record =>
    rw [htrecord, hrecord]
    simp [ChangeFlags.union, StationRecord.dropOutFlags, StationRecord.droppedOut]
  case others =>
    rw [hw.work.stations, hu]
    exact put_get_ne d.stations _ hst'
  case work =>
    exact hlost.workGone_of_entryWork hlines hbridge (by rw [hu]) (by rw [hu]) (by rw [hu]) henabled hw
  case unworked => rw [hw.work.lines i, hlines, hlost.unworked i]
  case released =>
    have htimers : u.trig.releaseTimers = c.trig.releaseTimers := by rw [hu]
    rw [hw.lines i (hlost.atRest hlines hbridge henabled h), hw.timers, hlines, htimers]
    exact hforgotten i h
  case quay =>
    obtain ⟨es', hes', hevents⟩ := hw.quay
    refine ⟨es, es', hes, hes', hevents.trans ?_⟩
    rw [queueEvents_append, queueEvents_append (es := _ ++ es), htrecord, hrecord]
    refine queueEvents_quay_congr ?_ es'
    rw [hu]
    exact queueEvents_quay_congr hquay _
  case probe =>
    have hscan : t.scan.probe = u.scan.probe := (congrArg ScanUnit.probe hw.work.scan).trans rfl
    rw [hscan, hu]
    exact put_get_self c.scan.probe st none
  case lost =>
    rw [hw.work.stationLost, hu]
    exact put_get_self c.trig.stationLost st true
  case hold => rw [hw.work.hold, hu, hlost.hold]

end Sys2Proof.Machine

/-! ### STATION POWER and GLOBAL POWER (O34) -/

namespace Sys2Proof.Machine

/-! #### The answers (R142) -/

theorem exec_stationPower (tag station onOff : Byte) {s₀ : State} (hs : s₀.dev.ready) :
    exec (.stationPower tag station onOff) s₀ =
      .next (s₀.heard.replied tag .management 0x21 (s₀.heard.dev.stationPower station onOff)) :=
  exec_replied (tag := tag) (r := .stationPower station onOff) rfl rfl hs

theorem exec_globalPower (tag onOff : Byte) {s₀ : State} (hs : s₀.dev.ready) :
    exec (.globalPower tag onOff) s₀ =
      .next (s₀.heard.replied tag .management 0x22 (s₀.heard.dev.globalPower onOff)) :=
  exec_replied (tag := tag) (r := .globalPower onOff) rfl rfl hs

theorem LineState.blocksPowerOff_iff (x : LineState) : x.blocksPowerOff = true ↔
    x = .runningOut ∨ x = .locking ∨ x = .locked ∨ x = .tending ∨ x = .releasing ∨ x = .rewinding := by
  cases x <;> decide

theorem powerOffBlocked_iff (d : Device) (st : StationId) : d.powerOffBlocked st = true ↔
    ∃ (i : LineId) (b : Binding), d.lines[i].binding = some b ∧ b.station = st ∧
      (d.lines[i].state = .runningOut ∨ d.lines[i].state = .locking ∨ d.lines[i].state = .locked ∨
        d.lines[i].state = .tending ∨ d.lines[i].state = .releasing ∨ d.lines[i].state = .rewinding) := by
  simp only [Device.powerOffBlocked, List.any_eq_true, mem_linesOf, LineRecord.onStation_iff,
    LineState.blocksPowerOff_iff]
  refine exists_congr fun i => ?_
  simp only [← and_assoc, exists_and_right]

/-! #### Switching (R142, R143) -/

section
variable {d : Device} {st : StationId}

theorem switchPower_on_of_off (h : d.stations[st].power = .off) : d.switchPower st true = d.switchOn st := by
  simp only [Device.switchPower, h]

theorem switchPower_on_of_not_off (h : d.stations[st].power ≠ .off) : d.switchPower st true = d := by
  cases hpower : d.stations[st].power with
  | off => exact absurd hpower h
  | powering => simp only [Device.switchPower, hpower]
  | on => simp only [Device.switchPower, hpower]

theorem switchPower_off_of_off (h : d.stations[st].power = .off) : d.switchPower st false = d := by
  simp only [Device.switchPower, h]

theorem switchPower_off_of_not_off (h : d.stations[st].power ≠ .off) : d.switchPower st false = d.switchOff st := by
  cases hpower : d.stations[st].power with
  | off => exact absurd hpower h
  | powering => simp only [Device.switchPower, hpower]
  | on => simp only [Device.switchPower, hpower]

end

/-! #### Switching off (R144) -/

/-- A station's record once its power is off. -/
def StationRecord.unpowered (r : StationRecord) : StationRecord :=
  { r with power := .off, powerGood := none, presence := .absent }

/-- A station's record as its switching off leaves it, but for its change flags. -/
def StationRecord.switchedOff (r : StationRecord) : StationRecord :=
  { r with power := .off, powerGood := none, presence := .absent, resetting := false, parked := false, driveA := .ok,
           driveB := .ok, missed := 0 }

/-- The flags that a station's switching off sets. -/
def StationRecord.powerOffFlags (r : StationRecord) : ChangeFlags :=
  { presence := decide (r.presence = .present), reset := r.resetting, park := r.parked, fault := r.driveFault }

/-- The part at a power-off, the station's work gone. -/
def Device.unpowered (d : Device) (st : StationId) : Device :=
  (d.setStation st d.stations[st].unpowered).workLost (fun d i => d.putFault i .stationLost) st .powerOff
    (put d.stations st { d.stations[st].unpowered with resetting := false })

theorem unpowered_stationLost (d : Device) (st : StationId) : StationLost d (d.unpowered st) st ∧
    (d.unpowered st).stations = put d.stations st { d.stations[st].unpowered with resetting := false } ∧
      ∃ es : List Event, (∀ x ∈ es, x.isDelivery = true) ∧
        (d.unpowered st).quay = (d.queueEvents (d.lostFaults st ++ d.lostPosted st .powerOff ++ es)).quay := by
  obtain ⟨hlost, hstations, es, hes, hquay⟩ := putFault_step.stationLost (fun _ => ⟨rfl, rfl⟩)
    (d.setStation st d.stations[st].unpowered) st .powerOff
    (put d.stations st { d.stations[st].unpowered with resetting := false })
  refine ⟨hlost.of_stations, hstations, es, hes, hquay.trans ?_⟩
  exact queueEvents_quay_congr (d := d) (d' := d.setStation st d.stations[st].unpowered) rfl _

theorem updStation_of_stations {d : Device} {v : Vector StationRecord 16} {st : StationId} {r : StationRecord}
    (f : StationRecord → StationRecord) (h : d.stations = put v st r) :
    d.updStation st f = { d with stations := put v st (f r) } := by
  rw [Device.updStation, Device.setStation, h, put_put, put_get_self]

theorem switchOff_eq_raised (d : Device) (st : StationId) : d.switchOff st =
    (({ d.unpowered st with
      stations := put d.stations st d.stations[st].switchedOff } : Device).syncProbe st).raiseChange st
        d.stations[st].powerOffFlags := by
  obtain ⟨-, hstations, -⟩ := unpowered_stationLost d st
  have hended : ((((d.setStation st d.stations[st].unpowered).linesOf st).foldl (fun d i => d.putFault i .stationLost)
      (d.setStation st d.stations[st].unpowered)).workEnded st .powerOff).stations =
        put d.stations st d.stations[st].unpowered := workEnded_stations putFault_step _ _ st .powerOff
  have hreset := updStation_of_stations (fun r => { r with resetting := false }) hended
  have hcleared := updStation_of_stations
    (fun r => { r with parked := false, driveA := .ok, driveB := .ok, missed := 0 }) hstations
  unfold Device.unpowered Device.workLost at hcleared ⊢
  rw [← hreset] at hcleared ⊢
  refine Eq.trans ?_
    (congrArg (fun c : Device => (c.syncProbe st).raiseChange st d.stations[st].powerOffFlags) hcleared)
  unfold Device.switchOff Device.updStation Device.workEnded Device.itemsDropped StationRecord.powerOffFlags
    StationRecord.unpowered
  dsimp only

theorem switchOff_eq (d : Device) (st : StationId) : d.switchOff st = { d.unpowered st with
    stations := put d.stations st { d.stations[st].switchedOff with
      flags := d.stations[st].flags.union d.stations[st].powerOffFlags }
    scan := { (d.unpowered st).scan with probe := put (d.unpowered st).scan.probe st none }
    quay := ((d.unpowered st).queueEvents (stationChanges st d.stations[st].flags { d.stations[st].switchedOff with
      flags := d.stations[st].flags.union d.stations[st].powerOffFlags })).quay } := by
  rw [switchOff_eq_raised]
  obtain ⟨c, hc⟩ : ∃ c, c = d.unpowered st := ⟨_, rfl⟩
  rw [← hc]
  have hrecord : ({ c with stations := put d.stations st d.stations[st].switchedOff } : Device).stations[st] =
      d.stations[st].switchedOff := put_get_self _ _ _
  rw [syncProbe_raiseChange_eq, hrecord]
  · dsimp only
    rw [put_put, queueEvents_quay_congr (d := c) (d' := { c with
      stations := put d.stations st d.stations[st].switchedOff }) rfl]
    rfl
  · rw [hrecord]
    exact StationRecord.probeDue_of_not_on Power.noConfusion

/-- What the switching off of a station leaves. -/
theorem switchOff_leaves (d : Device) (st : StationId) :
    let r := d.stations[st]
    let t := d.switchOff st
    t.stations[st] = { r with
      power := .off, powerGood := none, presence := .absent, resetting := false, parked := false, driveA := .ok,
      driveB := .ok, missed := 0
      flags := { r.flags with
        presence := r.flags.presence || decide (r.presence = .present), reset := r.flags.reset || r.resetting,
        park := r.flags.park || r.parked, fault := r.flags.fault || r.driveFault } } ∧
    (∀ st' : StationId, st' ≠ st → t.stations[st'] = d.stations[st']) ∧
    StationLost d t st ∧
    (∃ es : List Event, (∀ e ∈ es, e.isDelivery = true) ∧
      t.quay = (d.queueEvents (d.lostFaults st ++ d.lostPosted st .powerOff ++ es ++
        stationChanges st r.flags t.stations[st])).quay) ∧
    t.scan.probe[st] = none := by
  intro r t
  obtain ⟨hlost, -, es, hes, hquay⟩ := unpowered_stationLost d st
  have ht : t = _ := switchOff_eq d st
  clear_value t
  obtain ⟨c, hc⟩ : ∃ c, c = d.unpowered st := ⟨_, rfl⟩
  rw [← hc] at hlost hquay ht
  have hrecord : t.stations[st] = { d.stations[st].switchedOff with
      flags := d.stations[st].flags.union d.stations[st].powerOffFlags } := by rw [ht]; exact put_get_self _ _ _
  refine ⟨?record, fun st' hst' => ?others, ?lost, ⟨es, hes, ?quay⟩, ?probe⟩
  case record =>
    rw [hrecord]
    simp [ChangeFlags.union, StationRecord.powerOffFlags, StationRecord.switchedOff, r]
  case others =>
    rw [ht]
    exact put_get_ne d.stations _ hst'
  case lost =>
    rw [ht]
    exact hlost.written _ _ _
  case quay =>
    rw [queueEvents_append, hrecord, ht]
    exact queueEvents_quay_congr hquay _
  case probe =>
    rw [ht]
    exact put_get_self c.scan.probe st none

/-- Settles O34. -/
theorem powerOperations : Obligations.PowerOperations := by
  unfold Obligations.PowerOperations
  refine ⟨?station, ?global, powerOffBlocked_iff, fun d => ⟨rfl, rfl⟩, ?powering, ?ready,
    fun d st => switchPower_on_of_not_off, fun d st => switchPower_off_of_off, ?off⟩
  case station =>
    intro tag station onOff s₀ hs s
    rw [exec_stationPower tag station onOff hs]
    refine congrArg Host.Outcome.next ?_
    unfold Device.stationPower
    cases id16 station with
    | none => rfl
    | some st =>
      cases onOfCode onOff with
      | none => rfl
      | some on =>
        refine replied_ite Iff.rfl (fun _ => rfl) fun _ => replied_ite ?_ (fun _ => rfl) fun _ => replied_accept _
        rw [Bool.and_eq_true, Bool.not_eq_true']
  case global =>
    intro tag onOff s₀ hs s
    rw [exec_globalPower tag onOff hs]
    refine congrArg Host.Outcome.next ?_
    unfold Device.globalPower
    cases onOfCode onOff with
    | none => rfl
    | some on =>
      cases on with
      | true => rfl
      | false =>
        cases s.dev.globalBlocked with
        | none => rfl
        | some st => rfl
  case powering =>
    intro d st hoff hgood
    rw [switchPower_on_of_off hoff]
    exact if_neg hgood.ne'
  case ready =>
    intro d st hoff hgood
    rw [switchPower_on_of_off hoff]
    exact if_pos hgood
  case off =>
    intro d st hpower r t
    have ht : t = d.switchOff st := switchPower_off_of_not_off hpower
    obtain ⟨hrecord, hothers, hlost, hquay, hprobe⟩ := switchOff_leaves d st
    rw [← ht] at hrecord hothers hlost hquay hprobe
    exact ⟨hrecord, hothers, hlost.workGone, hlost.unworked, hlost.other, hquay, hprobe, hlost.stationLost, hlost.hold,
      hlost.inputs⟩

end Sys2Proof.Machine
